-- ==== Sys2Proof/Word.lean ====
section
/-! DEFINITION. The word types of the field loop: a byte, a 16-bit half and a 32-bit value (R190). -/

namespace Sys2Proof

/-- One byte of a cell (R190). -/
abbrev Byte := BitVec 8

/-- A 16-bit field of a cell: the aux (R190), or half of a value (R195). -/
abbrev Half := BitVec 16

/-- A 32-bit field of a cell: the value (R190). Also the width of the uptime (00_scope.md, "Uptime"). -/
abbrev Word := BitVec 32

end Sys2Proof
end

