-- ==== Sys2Proof/Syntax.lean ====
section
/-! DEFINITION. The cell of the field loop and the commands the part takes: one constructor of `Instr` for each row of
spec/opcode_table.json. The rows give no bits, so a command has no encoding; its operands are the bytes the rule of its row
uses. -/

namespace Sys2Proof

/-- The 12-byte cell of R190, field by field. Any twelve bytes are a cell: a wrong check or a bad form is judged on arrival
(R139). -/
structure Cell where
  /-- byte 0: 1 SAMPLE, 2 STATE, 3 COMMAND, 4 REQUEST, 5 REPLY, 6 EVENT, 7 FILL -/
  kind : Byte
  /-- byte 1 -/
  source : Byte
  /-- byte 2 -/
  dest : Byte
  /-- byte 3: channel, request number or event code -/
  selector : Byte
  /-- bytes 4-7, most significant first -/
  value : Word
  /-- bytes 8-9: flags, table id and field id, status and detail, or event detail -/
  aux : Half
  /-- byte 10 -/
  index : Byte
  /-- byte 11: the CRC of R191 over bytes 0-10 -/
  check : Byte
  deriving DecidableEq, Repr

/-- The commands of the part. In a request, `index` is the index byte of the REQUEST, which its REPLY repeats (R170); `field`
is byte 9 of the aux, `value` the value of the REQUEST. The request rows are the requests as the RQA takes them, after the
checks, the notice and the routing of PORT_A_ARRIVAL. -/
inductive Instr where
  /-- PORT_A_ARRIVAL (R141) -/
  | portAArrival (c : Cell)
  /-- PORT_B_ARRIVAL (R140) -/
  | portBArrival (c : Cell)
  /-- SUPERVISORY_COMMAND (R158): the COMMAND cell the LIF hands to the CFL -/
  | supervisoryCommand (c : Cell)
  /-- STATUS (R172); `page` is the field id -/
  | status (page index : Byte)
  /-- READ_ESTIMATES (R173) -/
  | readEstimates (field index : Byte)
  /-- READ_LOAD (R174) -/
  | readLoad (field index : Byte)
  /-- READ_FIELD (R175) -/
  | readField (table field index : Byte)
  /-- WRITE_FIELD (R177) on a table that has no write row of its own -/
  | writeField (table field index : Byte) (value : Word)
  /-- WRITE_FIELD_SITE (R123), table 1 -/
  | writeFieldSite (field index : Byte) (value : Word)
  /-- WRITE_FIELD_STAGE_TABLE (R4), table 2 -/
  | writeFieldStageTable (field index : Byte) (value : Word)
  /-- WRITE_FIELD_POSTURE_THRESHOLDS (R23), table 3 -/
  | writeFieldPostureThresholds (field index : Byte) (value : Word)
  /-- WRITE_FIELD_NODE_TABLE (R121), table 4 -/
  | writeFieldNodeTable (field index : Byte) (value : Word)
  /-- WRITE_FIELD_PUMP_TABLE (R37), table 5 -/
  | writeFieldPumpTable (field index : Byte) (value : Word)
  /-- WRITE_FIELD_LEVEL_LADDER (R41), table 6 -/
  | writeFieldLevelLadder (field index : Byte) (value : Word)
  /-- WRITE_FIELD_LOAD_LIMITS (R69), table 7 -/
  | writeFieldLoadLimits (field index : Byte) (value : Word)
  /-- WRITE_FIELD_PORTAL_TABLE (R81), table 8 -/
  | writeFieldPortalTable (field index : Byte) (value : Word)
  /-- WRITE_FIELD_ZONE_TABLE (R104), table 9 -/
  | writeFieldZoneTable (field index : Byte) (value : Word)
  /-- WRITE_FIELD_SCENE_TABLE (R105), table 10 -/
  | writeFieldSceneTable (field index : Byte) (value : Word)
  /-- WRITE_FIELD_AUTHORITY_TABLE (R153), table 11 -/
  | writeFieldAuthorityTable (field index : Byte) (value : Word)
  /-- WRITE_FIELD_RULE_TABLE (R156), table 12 -/
  | writeFieldRuleTable (field index : Byte) (value : Word)
  /-- READ_COUNTERS (R176) -/
  | readCounters (group index : Byte)
  /-- OPEN_EDIT (R3) -/
  | openEdit (index : Byte)
  /-- CLOSE_EDIT (R5) -/
  | closeEdit (index : Byte)
  /-- ABANDON_EDIT (R6) -/
  | abandonEdit (index : Byte)
  /-- SENSE_COMPLETION (R102) -/
  | senseCompletion (index : Byte)
  /-- HOME_GATE (R100) -/
  | homeGate (index : Byte)
  /-- MOVE_GATE_OPEN (R101): MOVE GATE with value 0 -/
  | moveGateOpen (index : Byte)
  /-- MOVE_GATE_CLOSE (R101): MOVE GATE with value 1 -/
  | moveGateClose (index : Byte)
  /-- LAMP_TEST (R115) -/
  | lampTest (index : Byte)
  /-- REOPEN (R33) -/
  | reopen (index : Byte)
  /-- CLOSE_ROADWAY (R32) -/
  | closeRoadway (index : Byte)
  /-- LOCK_PUMP (R61) -/
  | lockPump (index : Byte)
  /-- UNLOCK_PUMP (R62) -/
  | unlockPump (index : Byte)
  /-- CLEAR_FAULT (R63) -/
  | clearFault (index : Byte)
  /-- ROTATE (R64) -/
  | rotate (index : Byte)
  /-- CLEAR_UNKNOWN (R133) -/
  | clearUnknown (index : Byte)
  /-- PROGRAM_IDENTITY (R183) -/
  | programIdentity (field index : Byte) (value : Word)
  /-- READ_IDENTITY (R184) -/
  | readIdentity (field index : Byte)
  /-- RESET_PART (R189) -/
  | resetPart (index : Byte)
  /-- POWER_UP_RESET (R188): `fromNoSupply` set when the part starts from no supply, clear when its reset input is asserted -/
  | powerUpReset (fromNoSupply : Bool)
  /-- SUPPLY_RESET (R188) -/
  | supplyReset
  /-- REQUESTED_RESET (R189) -/
  | requestedReset
  /-- ACCOUNTING_PERIOD_EXPIRY (R10) -/
  | accountingPeriodExpiry
  /-- DESCENT_TIMER_EXPIRY (R29) -/
  | descentTimerExpiry
  /-- SPIN_UP_EXPIRY (R48) of pump 0-5 -/
  | spinUpExpiry (pump : Nat)
  /-- STOP_CONFIRM_EXPIRY (R50) of pump 0-5 -/
  | stopConfirmExpiry (pump : Nat)
  /-- MINIMUM_RUN_EXPIRY (R49) of pump 0-5 -/
  | minimumRunExpiry (pump : Nat)
  /-- REST_EXPIRY (R45) of pump 0-5 -/
  | restExpiry (pump : Nat)
  /-- LIMIT_TIMER_EXPIRY (R40) of pump 0-5 -/
  | limitTimerExpiry (pump : Nat)
  /-- WARNING_EXPIRY (R91) of portal 1-2 -/
  | warningExpiry (portal : Nat)
  /-- CLEAR_TIMER_EXPIRY (R93) of portal 1-2 -/
  | clearTimerExpiry (portal : Nat)
  /-- HOLD_LONG_EXPIRY (R93) of portal 1-2 -/
  | holdLongExpiry (portal : Nat)
  /-- PROGRESS_TIMER_EXPIRY (R92, R96) of portal 1-2 -/
  | progressTimerExpiry (portal : Nat)
  /-- HOMING_TIMER_EXPIRY (R89) of portal 1-2 -/
  | homingTimerExpiry (portal : Nat)
  /-- STEADY_TIMER_EXPIRY (R114) of zone 1-8 -/
  | steadyTimerExpiry (zone : Nat)
  /-- LAMP_TEST_TIMER_EXPIRY (R116) of zone 1-8 -/
  | lampTestTimerExpiry (zone : Nat)
  /-- STALE_TIMER_EXPIRY (R126) of the node at an address 1-59 -/
  | staleTimerExpiry (address : Nat)
  /-- SUPERVISION_TIMER_EXPIRY (R165) -/
  | supervisionTimerExpiry
  /-- PORT_A_TRANSMIT_COMPLETE (R143) -/
  | portATransmitComplete
  /-- PORT_B_TRANSMIT_COMPLETE (R147) -/
  | portBTransmitComplete
  /-- SUPPLY_RETURN (R188) -/
  | supplyReturn
  deriving DecidableEq, Repr

end Sys2Proof
end

