-- ==== Sys2Proof/Machine/Types.lean ====
section
/-! DEFINITION. The named states, kinds, causes and reasons of the part, and the numbers by which R196, R195 and R199 let
them travel. -/

namespace Sys2Proof.Machine

/-! ## Posture, supply and day -/

/-- The five postures (02_site_posture.md), in their order. -/
inductive Posture where
  | dry | wet | storm | alert | closed
  deriving DecidableEq, Repr

/-- R196, posture. The codes follow the order DRY < WET < STORM < ALERT < CLOSED. -/
def Posture.code : Posture → Nat
  | .dry => 0
  | .wet => 1
  | .storm => 2
  | .alert => 3
  | .closed => 4

/-- R196, posture, read back. -/
def Posture.ofCode : Int → Option Posture
  | 0 => some .dry
  | 1 => some .wet
  | 2 => some .storm
  | 3 => some .alert
  | 4 => some .closed
  | _ => none

/-- "STORM or above" (00_scope.md, Orders). -/
def Posture.stormOrAbove (p : Posture) : Bool := 2 ≤ p.code

/-- One step down the order of postures (R29): ALERT to STORM, STORM to WET, WET to DRY. -/
def Posture.stepDown : Posture → Posture
  | .alert => .storm
  | .storm => .wet
  | .wet => .dry
  | .dry => .dry
  | .closed => .closed

/-- The cause a POSTURE event carries (R34). -/
inductive PostureCause where
  | rise | descent | closeRoadway | reopen
  deriving DecidableEq, Repr

/-- R196, posture cause. -/
def PostureCause.code : PostureCause → Nat
  | .rise => 0
  | .descent => 1
  | .closeRoadway => 2
  | .reopen => 3

/-- The descent timer (R28): a remaining time stands only while a descent is in progress. -/
inductive Descent where
  | stopped
  | running (left : Nat)
  | paused (left : Nat)
  deriving DecidableEq, Repr

/-- R196, descent timer. -/
def Descent.code : Descent → Nat
  | .stopped => 0
  | .running _ => 1
  | .paused _ => 2

/-- The remaining time R35 reports: 0 when the timer is STOPPED. -/
def Descent.left : Descent → Nat
  | .stopped => 0
  | .running n => n
  | .paused n => n

/-- The supply tiers (R67), best to worst. -/
inductive Tier where
  | mains | generator | battery | critical | depleted
  deriving DecidableEq, Repr

/-- R196, tier. -/
def Tier.code : Tier → Nat
  | .mains => 0
  | .generator => 1
  | .battery => 2
  | .critical => 3
  | .depleted => 4

/-- R196, tier, read back. -/
def Tier.ofCode : Int → Option Tier
  | 0 => some .mains
  | 1 => some .generator
  | 2 => some .battery
  | 3 => some .critical
  | 4 => some .depleted
  | _ => none

/-- The battery class (R66). -/
inductive BatteryClass where
  | normal | critical | depleted
  deriving DecidableEq, Repr

/-- R196, battery class. -/
def BatteryClass.code : BatteryClass → Nat
  | .normal => 0
  | .critical => 1
  | .depleted => 2

/-- The day bands (R106), in their order. -/
inductive DayBand where
  | night | dusk | overcast | sun
  deriving DecidableEq, Repr

/-- R196, day band. -/
def DayBand.code : DayBand → Nat
  | .night => 0
  | .dusk => 1
  | .overcast => 2
  | .sun => 3

/-! ## Nodes and channels -/

/-- The freshness of a node (R126). -/
inductive Freshness where
  | fresh | stale | never
  deriving DecidableEq, Repr

/-- R196, freshness. -/
def Freshness.code : Freshness → Nat
  | .fresh => 0
  | .stale => 1
  | .never => 2

/-- The roles of a node (07, "The Node Table"). NONE is no role of a record. -/
inductive Role where
  | level | depth | float | flowmeter | presence | luminance | supply
  | pumpStarter | gateDrive | lampDriver | signal
  deriving DecidableEq, Repr

/-- R196, role. -/
def Role.code : Role → Nat
  | .level => 1
  | .depth => 2
  | .float => 3
  | .flowmeter => 4
  | .presence => 5
  | .luminance => 6
  | .supply => 7
  | .pumpStarter => 8
  | .gateDrive => 9
  | .lampDriver => 10
  | .signal => 11

/-- R196, role, read back; 0 is NONE. -/
def Role.ofCode : Int → Option Role
  | 1 => some .level
  | 2 => some .depth
  | 3 => some .float
  | 4 => some .flowmeter
  | 5 => some .presence
  | 6 => some .luminance
  | 7 => some .supply
  | 8 => some .pumpStarter
  | 9 => some .gateDrive
  | 10 => some .lampDriver
  | 11 => some .signal
  | _ => none

/-- The kinds of a channel (R120). -/
inductive ChannelKind where
  | analog | digital | counter | report
  deriving DecidableEq, Repr

/-- R120: the kind the role and the channel number fix. A channel above those the table names is ANALOG. -/
def Role.channelKind : Role → Nat → ChannelKind
  | .float, 0 => .digital
  | .float, 1 => .digital
  | .flowmeter, 0 => .counter
  | .presence, 0 => .digital
  | .supply, 0 => .digital
  | .supply, 1 => .digital
  | .pumpStarter, 0 => .report
  | .gateDrive, 0 => .report
  | _, _ => .analog

/-- R120: the minimum channel count, which is also the default count of every role. -/
def Role.minimumCount : Role → Nat
  | .float => 2
  | .supply => 3
  | .signal => 2
  | .level => 1
  | .depth => 1
  | .flowmeter => 1
  | .presence => 1
  | .luminance => 1
  | .pumpStarter => 1
  | .gateDrive => 1
  | .lampDriver => 1

/-- The watch codes (R130). -/
inductive WatchCode where
  | none | rise | fall | change | high | low
  deriving DecidableEq, Repr

/-- R196, watch code. -/
def WatchCode.code : WatchCode → Nat
  | .none => 0
  | .rise => 1
  | .fall => 2
  | .change => 3
  | .high => 4
  | .low => 5

/-- R196, watch code, read back. -/
def WatchCode.ofCode : Int → Option WatchCode
  | 0 => some .none
  | 1 => some .rise
  | 2 => some .fall
  | 3 => some .change
  | 4 => some .high
  | 5 => some .low
  | _ => Option.none

/-- The assignment fields of R123. Portals and zones are counted from 0 here: portal 1 is 0, zone 1 is 0. -/
inductive Assignment where
  | level | flowmeter | float | depth1 | depth2 | luminance | supply
  | starter (pump : Fin 6)
  | drive (portal : Fin 2)
  | presence (portal : Fin 2)
  | signal (portal : Fin 2)
  | lamp (zone : Fin 8)
  deriving DecidableEq, Repr

/-- The role an assignment must name (R123). -/
def Assignment.role : Assignment → Role
  | .level => .level
  | .flowmeter => .flowmeter
  | .float => .float
  | .depth1 => .depth
  | .depth2 => .depth
  | .luminance => .luminance
  | .supply => .supply
  | .starter _ => .pumpStarter
  | .drive _ => .gateDrive
  | .presence _ => .presence
  | .signal _ => .signal
  | .lamp _ => .lampDriver

/-- Every assignment of R123, in the order of its table. -/
def Assignment.all : List Assignment :=
  [.level, .flowmeter, .float, .depth1, .depth2, .luminance, .supply]
    ++ (List.finRange 6).map .starter ++ (List.finRange 2).map .drive ++ (List.finRange 2).map .presence
    ++ (List.finRange 2).map .signal ++ (List.finRange 8).map .lamp

/-! ## Pumps -/

/-- The pump states (R46). -/
inductive PumpState where
  | idle | starting | running | stopping | faulted
  deriving DecidableEq, Repr

/-- R196, pump state. -/
def PumpState.code : PumpState → Nat
  | .idle => 0
  | .starting => 1
  | .running => 2
  | .stopping => 3
  | .faulted => 4

/-- The pump fault reasons (R51). -/
inductive PumpFault where
  | startFail | stopFail | trip | silent
  deriving DecidableEq, Repr

/-- R196, pump fault reason. -/
def PumpFault.code : PumpFault → Nat
  | .startFail => 1
  | .stopFail => 2
  | .trip => 3
  | .silent => 4

/-- The causes PUMP_STATE carries (R46). -/
inductive PumpCause where
  | start | supervisor | feedback | demand | shed | lock | denied | unbidden | fault | adoption | clear
  deriving DecidableEq, Repr

/-- R196, pump cause. -/
def PumpCause.code : PumpCause → Nat
  | .start => 0
  | .supervisor => 1
  | .feedback => 2
  | .demand => 3
  | .shed => 4
  | .lock => 5
  | .denied => 6
  | .unbidden => 7
  | .fault => 8
  | .adoption => 9
  | .clear => 10

/-- Why a pump is stopping (R38). -/
inductive StopCause where
  | demand | supervisor | shed | lock | denied
  deriving DecidableEq, Repr

/-- The PUMP_STATE cause of a move to STOPPING is its stop cause (R55, R57, R59, R60, R61). -/
def StopCause.pumpCause : StopCause → PumpCause
  | .demand => .demand
  | .supervisor => .supervisor
  | .shed => .shed
  | .lock => .lock
  | .denied => .denied

/-- Who made the present or last start (R38). -/
inductive Origin where
  | engine | supervisor
  deriving DecidableEq, Repr

/-! ## Gates -/

/-- The gate states (R82). -/
inductive GateState where
  | unknown | homing | open | warning | closing | held | closed | opening | fault
  deriving DecidableEq, Repr

/-- R196, gate state. -/
def GateState.code : GateState → Nat
  | .unknown => 0
  | .homing => 1
  | .open => 2
  | .warning => 3
  | .closing => 4
  | .held => 5
  | .closed => 6
  | .opening => 7
  | .fault => 8

/-- HOMING, CLOSING and OPENING are the states of motion (R85, R88). -/
def GateState.moving : GateState → Bool
  | .homing => true
  | .closing => true
  | .opening => true
  | .unknown => false
  | .open => false
  | .warning => false
  | .held => false
  | .closed => false
  | .fault => false

/-- The gate fault reasons (R97). -/
inductive GateFault where
  | homeNotFound | noProgress | driveTrip | driveSilent
  deriving DecidableEq, Repr

/-- R196, gate fault reason. -/
def GateFault.code : GateFault → Nat
  | .homeNotFound => 1
  | .noProgress => 2
  | .driveTrip => 3
  | .driveSilent => 4

/-- The causes GATE_STATE carries (R98). -/
inductive GateCause where
  | adoption | feedback | posture | reopen | request | presence | clear | warningEnd | power | fault | lostPosition
  deriving DecidableEq, Repr

/-- R196, gate cause. -/
def GateCause.code : GateCause → Nat
  | .adoption => 0
  | .feedback => 1
  | .posture => 2
  | .reopen => 3
  | .request => 4
  | .presence => 5
  | .clear => 6
  | .warningEnd => 7
  | .power => 8
  | .fault => 9
  | .lostPosition => 10

/-- The goal of a gate's present or awaited motion (R82, "target"). -/
inductive Goal where
  | close | open | home
  deriving DecidableEq, Repr

/-- Who decided the present close (R82). -/
inductive ClosedBy where
  | posture | request
  deriving DecidableEq, Repr

/-- The presence reading (R84). -/
inductive Presence where
  | clear | occupied
  deriving DecidableEq, Repr

/-- The request-started operations (R99). A portal's record holds one of the first three. -/
inductive Operation where
  | home | moveOpen | moveClose | lampTest
  deriving DecidableEq, Repr

/-- R196, operation. -/
def Operation.code : Operation → Nat
  | .home => 1
  | .moveOpen => 2
  | .moveClose => 3
  | .lampTest => 4

/-- The outcome of an operation (R99). NONE is not the outcome of an entry. -/
inductive OpOutcome where
  | done | abnormal | equipment | superseded
  deriving DecidableEq, Repr

/-- R196, outcome. -/
def OpOutcome.code : OpOutcome → Nat
  | .done => 1
  | .abnormal => 2
  | .equipment => 3
  | .superseded => 4

/-! ## Lighting -/

/-- The granted part of a zone (R109). -/
inductive GrantedPart where
  | full | floor | none
  deriving DecidableEq, Repr

/-! ## The output image -/

/-- Who wrote a slot's target (R152). -/
inductive SlotSource where
  | supervisor | engine | shed | fallback | clamp
  deriving DecidableEq, Repr

/-- R196, slot source. -/
def SlotSource.code : SlotSource → Nat
  | .supervisor => 0
  | .engine => 1
  | .shed => 2
  | .fallback => 3
  | .clamp => 4

/-- The class of a slot's target (R152). -/
inductive SlotClass where
  | ordinary | safety
  deriving DecidableEq, Repr

/-- R196, class. -/
def SlotClass.code : SlotClass → Nat
  | .ordinary => 0
  | .safety => 1

/-- Configured authority (R153). -/
inductive Authority where
  | supervisor | shared | part
  deriving DecidableEq, Repr

/-- R196, authority. -/
def Authority.code : Authority → Nat
  | .supervisor => 0
  | .shared => 1
  | .part => 2

/-- R196, authority, read back. -/
def Authority.ofCode : Int → Option Authority
  | 0 => some .supervisor
  | 1 => some .shared
  | 2 => some .part
  | _ => none

/-- Effective authority (R154). -/
inductive Effective where
  | supervisor | part
  deriving DecidableEq, Repr

/-- R196, authority, for an effective authority. -/
def Effective.code : Effective → Nat
  | .supervisor => 0
  | .part => 2

/-- The fallback actions (R153, R165). -/
inductive FallbackAction where
  | hold | drive | release
  deriving DecidableEq, Repr

/-- R196, fallback action. -/
def FallbackAction.code : FallbackAction → Nat
  | .hold => 0
  | .drive => 1
  | .release => 2

/-- R196, fallback action, read back. -/
def FallbackAction.ofCode : Int → Option FallbackAction
  | 0 => some .hold
  | 1 => some .drive
  | 2 => some .release
  | _ => none

/-- What an interlock rule matches (R156): a slot of a pump (0-5) or of a zone (12-19), all pumps or all zones. -/
inductive RuleMatch where
  | pumpSlot (pump : Fin 6)
  | zoneSlot (zone : Fin 8)
  | allPumps
  | allZones
  deriving DecidableEq, Repr

/-- R196, rule match. -/
def RuleMatch.code : RuleMatch → Nat
  | .pumpSlot i => i.val
  | .zoneSlot z => 12 + z.val
  | .allPumps => 32
  | .allZones => 33

/-- R196, rule match, read back: a gate or signal slot is no match (R156). -/
def RuleMatch.ofCode (v : Int) : Option RuleMatch :=
  if v = 32 then some .allPumps
  else if v = 33 then some .allZones
  else if h : 0 ≤ v ∧ v < 6 then some (.pumpSlot ⟨v.toNat, by omega⟩)
  else if h : 12 ≤ v ∧ v < 20 then some (.zoneSlot ⟨(v - 12).toNat, by omega⟩)
  else none

/-- The actions of an interlock rule (R157). -/
inductive RuleAction where
  | pass | block | clamp | raise
  deriving DecidableEq, Repr

/-- R196, rule action. -/
def RuleAction.code : RuleAction → Nat
  | .pass => 0
  | .block => 1
  | .clamp => 2
  | .raise => 3

/-- R196, rule action, read back. -/
def RuleAction.ofCode : Int → Option RuleAction
  | 0 => some .pass
  | 1 => some .block
  | 2 => some .clamp
  | 3 => some .raise
  | _ => none

/-- The supervision state (R164). -/
inductive Supervision where
  | present | lost
  deriving DecidableEq, Repr

/-- R196, supervision. -/
def Supervision.code : Supervision → Nat
  | .present => 0
  | .lost => 1

/-- The reasons of COMMAND_REFUSED and COMMAND_CLAMPED (R159, R59, R162). -/
inductive Reason where
  | sequenced | authority | range | rule | foreign | unavailable | stagger | rest | startLimit | power
  deriving DecidableEq, Repr

/-- R196, refusal and clamp reason. -/
def Reason.code : Reason → Nat
  | .sequenced => 1
  | .authority => 2
  | .range => 3
  | .rule => 4
  | .foreign => 5
  | .unavailable => 6
  | .stagger => 7
  | .rest => 8
  | .startLimit => 9
  | .power => 10

/-! ## The claim list -/

/-- The owners of claims (R70). Gates and zones are counted from 0: gate 1 is 0, zone 1 is 0. -/
inductive Owner where
  | reserve
  | gate (portal : Fin 2)
  | floor (zone : Fin 8)
  | pump (pump : Fin 6)
  | upper (zone : Fin 8)
  deriving DecidableEq, Repr

/-- The fixed band of an owner (R70). -/
def Owner.band : Owner → Nat
  | .reserve => 1
  | .gate _ => 2
  | .floor _ => 3
  | .pump _ => 4
  | .upper _ => 5

/-- R196, claim owner kind. -/
def Owner.kindCode : Owner → Nat
  | .reserve => 0
  | .gate _ => 1
  | .floor _ => 2
  | .pump _ => 3
  | .upper _ => 4

/-- The owner's index as SHED and the claim list carry it: the portal, zone or pump number; the reserve has none (R191: 0). -/
def Owner.index : Owner → Nat
  | .reserve => 0
  | .gate p => p.val + 1
  | .floor z => z.val + 1
  | .pump i => i.val
  | .upper z => z.val + 1

/-! ## Requests and resets -/

/-- The reply statuses (R171). -/
inductive Status where
  | ok | accepted | malformed | range | posture | authority | busy | notReady | pendingSense | listFull | edit
  | programmed | power | table
  deriving DecidableEq, Repr

/-- R195, byte 8 of a REPLY. -/
def Status.code : Status → Nat
  | .ok => 0
  | .accepted => 1
  | .malformed => 2
  | .range => 3
  | .posture => 4
  | .authority => 5
  | .busy => 6
  | .notReady => 7
  | .pendingSense => 8
  | .listFull => 9
  | .edit => 10
  | .programmed => 11
  | .power => 12
  | .table => 13

/-- The reset kinds (R188). -/
inductive ResetCause where
  | powerUp | supply | requested
  deriving DecidableEq, Repr

/-- R196, reset cause. -/
def ResetCause.code : ResetCause → Nat
  | .powerUp => 0
  | .supply => 1
  | .requested => 2

/-- The persisted tables (R185), numbered 1-13 by R198. -/
inductive Table where
  | site | stage | thresholds | nodes | pumps | ladder | limits | portals | zones | scene | authority | rules | commissioning
  deriving DecidableEq, Repr

/-- The place of a table among the thirteen, from 0; its id in R198 is one more. -/
def Table.place : Table → Fin 13
  | .site => 0
  | .stage => 1
  | .thresholds => 2
  | .nodes => 3
  | .pumps => 4
  | .ladder => 5
  | .limits => 6
  | .portals => 7
  | .zones => 8
  | .scene => 9
  | .authority => 10
  | .rules => 11
  | .commissioning => 12

/-- The causes of ESTIMATE_HELD (R19). -/
inductive HeldCause where
  | tableInvalid | unassigned | never | stale | levelAbsent
  deriving DecidableEq, Repr

/-- R196, held cause. -/
def HeldCause.code : HeldCause → Nat
  | .tableInvalid => 1
  | .unassigned => 2
  | .never => 3
  | .stale => 4
  | .levelAbsent => 5

/-! ## The port A queue -/

/-- The kinds of entry of the port A queue (R143). -/
inductive EntryKind where
  | forwarded | event | reply
  deriving DecidableEq, Repr

/-- The free slots an entry needs to be admitted (R144). -/
def EntryKind.needs : EntryKind → Nat
  | .forwarded => 4
  | .event => 2
  | .reply => 1

/-- The events (R199). -/
inductive Event where
  | posture | estimateHeld | estimateResumed | flowImplausible | pumpState | pumpFault | startLimited | gateState
  | gateFault | gateHeldLong | completionReady | commandRefused | commandClamped | tier | batteryLow | shed | lampFault
  | dayBand | nodeStale | nodeFresh | nodeUnknown | watch | supervisionLost | supervisionRestored | editAbandoned
  | tableCheckFailed
  deriving DecidableEq, Repr

/-- R199, event code. -/
def Event.code : Event → Nat
  | .posture => 1
  | .estimateHeld => 2
  | .estimateResumed => 3
  | .flowImplausible => 4
  | .pumpState => 5
  | .pumpFault => 6
  | .startLimited => 7
  | .gateState => 8
  | .gateFault => 9
  | .gateHeldLong => 10
  | .completionReady => 11
  | .commandRefused => 12
  | .commandClamped => 13
  | .tier => 14
  | .batteryLow => 15
  | .shed => 16
  | .lampFault => 17
  | .dayBand => 18
  | .nodeStale => 19
  | .nodeFresh => 20
  | .nodeUnknown => 21
  | .watch => 22
  | .supervisionLost => 23
  | .supervisionRestored => 24
  | .editAbandoned => 25
  | .tableCheckFailed => 26

end Sys2Proof.Machine
end

