-- ==== Sys2Proof/Config.lean ====
section
/-! DEFINITION. What the spec leaves open as a value: constants without a body, so that nothing can rest on a choice of
theirs. Each is named in a log entry. -/

namespace Sys2Proof.Config

open Sys2Proof.Machine

/-- DESIGN CHOICE (log 7), safe. R196 lists no code for the origin of a start; READ FIELD of table 16 field 5 gives this. -/
opaque originCode : Origin → Int

/-- DESIGN CHOICE (log 7), safe. R196 lists no code for closed-by (table 18 field 4). -/
opaque closedByCode : ClosedBy → Int

/-- DESIGN CHOICE (log 7), safe. R196 lists no code for the presence reading (table 18 field 5). -/
opaque presenceCode : Presence → Int

/-- DESIGN CHOICE (log 7), safe. R196 lists no code for the granted part (table 19 field 1). -/
opaque grantedPartCode : GrantedPart → Int

/-- DESIGN CHOICE (log 8), safe. R198 gives the last report of a gate drive, a value and five flags, one field (table 18
field 8) and no packing. -/
opaque driveReportCode : Int → Half → Int

/-- DESIGN CHOICE (log 9), safe. R68 carries a battery value in units of 100 mV and names no rounding: the units of a value
that is no whole number of them. -/
opaque batteryUnits : Int → Int

/-- DESIGN CHOICE (log 37), safe. READ FIELD reports the day band (R106) and R198 lists no field for it: which of the run-time
tables 16-24 holds it. -/
opaque dayBandTable : Fin 9

/-- DESIGN CHOICE (log 37), safe. The field id of the day band in its table, counted from 13, the first id above every id that R198
lists in a run-time table. -/
opaque dayBandField : Fin 243

/-- The internal announcements one handling may take before the rest waits for the next command (log 2). -/
def maxDeliveries : Nat := 4096

end Sys2Proof.Config
end

