-- ==== Sys2Proof/Machine/Tables.lean ====
section
/-! DEFINITION. The records of the persisted tables (R185) with their defaults. -/

namespace Sys2Proof.Machine

/-! ## Site table (R198, table 1) -/

/-- The Site table. A node field holds an address 1-59, or 0 for unassigned (R123). -/
structure Site where
  levelNode : Nat
  flowNode : Nat
  floatNode : Nat
  depthNode1 : Nat
  depthNode2 : Nat
  lumNode : Nat
  supplyNode : Nat
  /-- P, 1-60 s (R8) -/
  period : Nat
  /-- m, 1-8 (R8) -/
  dryMultiplier : Nat
  /-- 1-1000 L (R12) -/
  litresPerCount : Nat
  /-- k, 0-4 (R15) -/
  shift : Nat
  /-- R145 -/
  flushOnLoss : Bool
  /-- R153 -/
  takeover : Posture
  /-- 5-300 s (R153) -/
  supervisionTimeout : Nat
  deriving DecidableEq, Repr

def Site.default : Site :=
  { levelNode := 0, flowNode := 0, floatNode := 0, depthNode1 := 0, depthNode2 := 0, lumNode := 0, supplyNode := 0,
    period := 5, dryMultiplier := 4, litresPerCount := 100, shift := 2, flushOnLoss := true, takeover := .storm,
    supervisionTimeout := 30 }

/-! ## Stage-storage table (R1, table 2) -/

/-- A breakpoint: a level in mm and a volume in L. -/
structure Breakpoint where
  level : Nat
  volume : Nat
  deriving DecidableEq, Repr

/-- The stage-storage table of R1. -/
structure StageTable where
  count : Nat
  points : Vector Breakpoint 16
  spill : Nat
  deriving DecidableEq, Repr

def StageTable.default : StageTable :=
  { count := 0, points := Vector.replicate 16 { level := 0, volume := 0 }, spill := 0 }

/-! ## Posture thresholds (R23, table 3) -/

/-- The posture thresholds of R23. -/
structure Thresholds where
  wetLevel : Nat
  stormLevel : Nat
  stormInflow : Nat
  alertTime : Nat
  closeTime : Nat
  alertDepth : Nat
  closeDepth : Nat
  descentTime : Nat
  deriving DecidableEq, Repr

def Thresholds.default : Thresholds :=
  { wetLevel := 1500, stormLevel := 3000, stormInflow := 600, alertTime := 900, closeTime := 300, alertDepth := 10,
    closeDepth := 50, descentTime := 300 }

/-! ## Node Table (R119-R122, table 4) -/

/-- The scaling of an ANALOG channel (R122). -/
structure Scaling where
  rawLow : Int
  rawHigh : Int
  engLow : Int
  engHigh : Int
  deriving DecidableEq, Repr

def Scaling.default : Scaling := { rawLow := 0, rawHigh := 1000000, engLow := 0, engHigh := 1000000 }

/-- A channel record (R122). The scaling is present on ANALOG channels and absent on the others (R120). -/
structure Channel where
  scaling : Option Scaling
  watch : WatchCode
  lastRaw : Option Int
  lastEng : Option Int
  lastFlags : Option Half
  outOfSpan : Nat
  latch : Bool
  deriving DecidableEq, Repr

/-- The channel record a new channel takes (R122). -/
def Channel.fresh (k : ChannelKind) : Channel :=
  { scaling := if k = .analog then some .default else none, watch := .none, lastRaw := none, lastEng := none,
    lastFlags := none, outOfSpan := 0, latch := false }

/-- A node record (R119). The channel count is the number of channel records. -/
structure Node where
  address : Nat
  role : Role
  staleTime : Nat
  freshness : Freshness
  staleTimer : Option Nat
  channels : List Channel
  deriving DecidableEq, Repr

/-! ## Pump table (R37, table 5) and level ladder (R41, table 6) -/

/-- An entry of the pump table (R37). -/
structure PumpConfig where
  starterNode : Nat
  ratedFlow : Nat
  ratedPower : Nat
  spinUp : Nat
  minRun : Nat
  minRest : Nat
  stopConfirm : Nat
  startLimit : Nat
  deriving DecidableEq, Repr

def PumpConfig.default : PumpConfig :=
  { starterNode := 0, ratedFlow := 0, ratedPower := 0, spinUp := 10, minRun := 120, minRest := 60, stopConfirm := 15,
    startLimit := 6 }

/-- A rung of the level ladder (R41). -/
structure Rung where
  start : Nat
  stop : Nat
  deriving DecidableEq, Repr

/-- The level ladder (R41). Rung n stands at place n - 1. -/
structure Ladder where
  count : Nat
  rungs : Vector Rung 6
  deriving DecidableEq, Repr

def Ladder.default : Ladder := { count := 0, rungs := Vector.replicate 6 { start := 0, stop := 0 } }

/-! ## Load-limit table (R69, table 7) -/

/-- The load-limit table (R69). Powers are in 0.1 kW units, thresholds in mV. -/
structure Limits where
  mains : Nat
  generator : Nat
  battery : Nat
  critical : Nat
  depleted : Nat
  reserve : Nat
  criticalMv : Nat
  cutoffMv : Nat
  lowMv : Nat
  deriving DecidableEq, Repr

def Limits.default : Limits :=
  { mains := 6000, generator := 1800, battery := 300, critical := 150, depleted := 40, reserve := 40, criticalMv := 44000,
    cutoffMv := 42000, lowMv := 46000 }

/-- The limit of a tier (R69). -/
def Limits.ofTier (l : Limits) : Tier → Nat
  | .mains => l.mains
  | .generator => l.generator
  | .battery => l.battery
  | .critical => l.critical
  | .depleted => l.depleted

/-! ## Portal table (R81, table 8) -/

/-- An entry of the portal table (R81). -/
structure PortalConfig where
  driveNode : Nat
  presenceNode : Nat
  signalNode : Nat
  travel : Nat
  fullTravel : Nat
  window : Nat
  warning : Nat
  clear : Nat
  holdLong : Nat
  power : Nat
  deriving DecidableEq, Repr

def PortalConfig.default : PortalConfig :=
  { driveNode := 0, presenceNode := 0, signalNode := 0, travel := 4000, fullTravel := 40, window := 5, warning := 20,
    clear := 3, holdLong := 180, power := 75 }

/-! ## Zone table (R104, table 9) and scene table (R105, table 10) -/

/-- An entry of the zone table (R104). -/
structure ZoneConfig where
  lampNode : Nat
  channel : Nat
  ratedPower : Nat
  ratedCurrent : Nat
  floor : Nat
  shedPriority : Nat
  authority : Authority
  deriving DecidableEq, Repr

/-- The default entry of zone `z` (from 0): the shed priority is the zone number. -/
def ZoneConfig.default (z : Fin 8) : ZoneConfig :=
  { lampNode := 0, channel := 0, ratedPower := 0, ratedCurrent := 0, floor := 20, shedPriority := z.val + 1,
    authority := .part }

/-- The zone table at its defaults. -/
def zoneTableDefault : Vector ZoneConfig 8 := Vector.ofFn ZoneConfig.default

/-- The scene table with the day band thresholds (R105). Row posture × 4 + band. -/
structure Scene where
  levels : Vector (Vector Nat 8) 20
  t1 : Nat
  t2 : Nat
  t3 : Nat
  deriving DecidableEq, Repr

/-- The default level of a row (R105): 40, 60, 80, 100 over the day bands, and 100 throughout in CLOSED. -/
def sceneRowDefault (row : Nat) : Nat :=
  if 16 ≤ row then 100 else 40 + 20 * (row % 4)

def Scene.default : Scene :=
  { levels := Vector.ofFn fun r => Vector.replicate 8 (sceneRowDefault r.val), t1 := 50, t2 := 1000, t3 := 10000 }

/-! ## Authority table (R153, table 11) and rule table (R156, table 12) -/

/-- A pump entry of the authority table (R153). -/
structure PumpAuthority where
  configured : Authority
  action : FallbackAction
  value : Nat
  deriving DecidableEq, Repr

def PumpAuthority.default : PumpAuthority := { configured := .part, action := .hold, value := 0 }

/-- A zone entry of the authority table (R153). Its configured authority is the zone table's. -/
structure ZoneAuthority where
  action : FallbackAction
  value : Nat
  deriving DecidableEq, Repr

def ZoneAuthority.default : ZoneAuthority := { action := .hold, value := 0 }

/-- The authority table (R153). -/
structure AuthorityTable where
  pumps : Vector PumpAuthority 6
  zones : Vector ZoneAuthority 8
  deriving DecidableEq, Repr

def AuthorityTable.default : AuthorityTable :=
  { pumps := Vector.replicate 6 .default, zones := Vector.replicate 8 .default }

/-- An entry of the rule table (R156). An absent condition is ANY. -/
structure Rule where
  slots : RuleMatch
  posture : Option Posture
  tier : Option Tier
  action : RuleAction
  value : Nat
  standing : Bool
  deriving DecidableEq, Repr

def Rule.default : Rule :=
  { slots := .allPumps, posture := none, tier := none, action := .pass, value := 0, standing := false }

/-- The rule table (R156). Entry n stands at place n - 1. -/
structure RuleTable where
  count : Nat
  entries : Vector Rule 32
  deriving DecidableEq, Repr

def RuleTable.default : RuleTable := { count := 0, entries := Vector.replicate 32 .default }

/-! ## Commissioning store (R182, table 13) -/

/-- The five commissioning values (R182). -/
structure Commissioned where
  address : Nat
  pumps : Nat
  portals : Nat
  zones : Nat
  siteCode : Nat
  deriving DecidableEq, Repr

/-- The unprogrammed values of R182. -/
def Commissioned.unprogrammed : Commissioned := { address := 62, pumps := 2, portals := 1, zones := 2, siteCode := 0 }

/-- The commissioning store: stored values, and whether fields 1-5 (places 0-4) are programmed. -/
structure Store where
  stored : Commissioned
  programmed : Vector Bool 5
  deriving DecidableEq, Repr

def Store.default : Store := { stored := .unprogrammed, programmed := Vector.replicate 5 false }

end Sys2Proof.Machine
end

