-- ==== Sys2Proof/Machine/State.lean ====
section
/-! DEFINITION. The state of the part as plain data, one structure for each block (00_scope.md, "Blocks of the Part"), the
queue of waiting commands, the internal announcements, and the state after reset. -/

namespace Sys2Proof.Machine

/-! ## Loop Interface (08) -/

/-- A cell of the port A queue with its kind of entry (R143). -/
structure QueueEntry where
  kind : EntryKind
  cell : Cell
  deriving DecidableEq, Repr

/-- The state of the LIF (R143, R146, R149, R150). Both transmitters always send a cell: where nothing waits, a FILL (R138). -/
structure Lif where
  /-- the port A queue, head first, at most 24 cells -/
  queue : List QueueEntry
  /-- the head of the queue is the cell on port A's transmitter -/
  headSending : Bool
  /-- the cell on port A's transmitter -/
  txA : Cell
  /-- the pass-through FIFO, head first, at most 8 cells -/
  fifo : List Cell
  /-- the cell on port B's transmitter -/
  txB : Cell
  checkErrorsA : Nat
  checkErrorsB : Nat
  malformedA : Nat
  malformedB : Nat
  foreign : Nat
  misdirected : Nat
  forwardDrops : Nat
  eventDrops : Nat
  passDrops : Nat
  eventsLost : Bool
  deriving DecidableEq, Repr

/-! ## Sample Intake Unit (07) -/

/-- The state of the SIU (R119, R124, R132, R134, R137). -/
structure Siu where
  /-- ascending by address, at most 40 records -/
  nodes : List Node
  /-- the report marks, one for each assignment, at the places of `Assignment.all` -/
  marks : Vector Bool 27
  /-- the unknown-address set, oldest first, at most 8 -/
  unknown : List Nat
  roleMismatch : Nat
  unknownSource : Nat
  deriving DecidableEq, Repr

/-! ## Sump Accounting Unit (01) -/

/-- The estimates of the accounting record (R22). They are present together or absent together. -/
structure Estimates where
  volume : Int
  outflow : Int
  netRise : Int
  inflow : Int
  headroom : Int
  time : Int
  deficit : Int
  deriving DecidableEq, Repr

/-- The state of the SAU (R1, R3, R9, R22). -/
structure Sau where
  table : StageTable
  /-- the staging area, present while an edit is open (R3) -/
  staging : Option StageTable
  est : Option Estimates
  overTable : Bool
  held : Bool
  first : Bool
  /-- a held expiry has been taken since the last reset (R19) -/
  heldSeen : Bool
  baseline : Option Int
  level : Option Int
  count : Option Int
  /-- the level the last computed period used (R10) -/
  usedLevel : Option Int
  levelFresh : Freshness
  flowFresh : Freshness
  cAvail : Int
  vRoad : Option Int
  /-- P_eff of the running period (R8) -/
  periodLength : Nat
  periodTimer : Option Nat
  posture : Posture
  deriving DecidableEq, Repr

/-! ## Posture Evaluator (02) -/

/-- The state of the PEV (R23, R24, R36). Depth nodes 1 and 2 stand at places 0 and 1. -/
structure Pev where
  posture : Posture
  candidate : Posture
  descent : Descent
  forced : Bool
  thresholds : Thresholds
  time : Option Int
  inflow : Option Int
  deficit : Option Int
  held : Bool
  level : Option Int
  depth : Vector (Option Int) 2
  depthFresh : Vector Freshness 2
  lowFloat : Option Int
  highFloat : Option Int
  floatFresh : Freshness
  pumpCount : Nat
  deriving DecidableEq, Repr

/-! ## Pump Dispatcher (03) -/

/-- The run-time record of a pump (R38) with its timers, each stopped or with its seconds left. -/
structure Pump where
  state : PumpState
  fault : Option PumpFault
  /-- uptimes of its counted starts, oldest first (R40) -/
  starts : List Word
  lastStop : Option Word
  runSince : Option Word
  origin : Option Origin
  stopCause : Option StopCause
  /-- the flags of the last report (R46) -/
  report : Option Half
  fresh : Freshness
  limited : Bool
  powerWait : Bool
  spinUp : Option Nat
  stopConfirm : Option Nat
  minRun : Option Nat
  rest : Option Nat
  limit : Option Nat
  deriving DecidableEq, Repr

/-- The pump record after reset (R38). -/
def Pump.atReset : Pump :=
  { state := .idle, fault := none, starts := [], lastStop := none, runSince := none, origin := none, stopCause := none,
    report := none, fresh := .never, limited := false, powerWait := false, spinUp := none, stopConfirm := none,
    minRun := none, rest := none, limit := none }

/-- The state of the PDX (R37, R39, R41, R42, R45). -/
structure Pdx where
  config : Vector PumpConfig 6
  pumps : Vector Pump 6
  roster : List (Fin 6)
  faultSet : Vector Bool 6
  lockoutSet : Vector Bool 6
  ladder : Ladder
  /-- the activity of rungs 1-6, rung n at place n - 1 (R42) -/
  active : Vector Bool 6
  demand : Nat
  posture : Posture
  held : Bool
  inflow : Option Int
  lowFloat : Option Int
  highFloat : Option Int
  floatFresh : Freshness
  deriving DecidableEq, Repr

/-! ## Load Account (04) -/

/-- A claim of the claim list (R70). -/
structure Claim where
  owner : Owner
  amount : Nat
  granted : Bool
  deriving DecidableEq, Repr

/-- The state of the LDA (R65-R70, R78, R80). -/
structure Lda where
  mains : Option Int
  generator : Option Int
  battery : Option Int
  fresh : Freshness
  cls : BatteryClass
  low : Bool
  tier : Tier
  limits : Limits
  /-- the claim list in the order of the last walk -/
  claims : List Claim
  allowance : Int
  cAvail : Int
  deriving DecidableEq, Repr

/-! ## Portal Sequencer (05) -/

/-- The record of a portal (R82) with its timers. -/
structure Portal where
  state : GateState
  fault : Option GateFault
  position : Option Int
  target : Option Goal
  closedBy : Option ClosedBy
  presence : Presence
  powerWait : Bool
  /-- warning served (R91) -/
  warned : Bool
  reportValue : Option Int
  reportFlags : Option Half
  driveFresh : Freshness
  op : Option Operation
  /-- the last value of the presence node (R84) -/
  presenceValue : Option Int
  presenceFresh : Freshness
  /-- GATE_HELD_LONG has been raised in this stay in HELD (R93) -/
  heldLong : Bool
  warning : Option Nat
  clear : Option Nat
  holdLong : Option Nat
  progress : Option Nat
  homing : Option Nat
  deriving DecidableEq, Repr

/-- The portal record after reset (R103), with its presence reading. -/
def Portal.atReset (presence : Presence) : Portal :=
  { state := .unknown, fault := none, position := none, target := none, closedBy := none, presence := presence,
    powerWait := false, warned := false, reportValue := none, reportFlags := none, driveFresh := .never, op := none,
    presenceValue := none, presenceFresh := .never, heldLong := false, warning := none, clear := none, holdLong := none,
    progress := none, homing := none }

/-- An entry of the completion list (R99). -/
structure Completion where
  op : Operation
  /-- the portal or zone number -/
  target : Nat
  outcome : OpOutcome
  detail : Option Int
  uptime : Word
  deriving DecidableEq, Repr

/-- The state of the PSQ (R81, R82, R99, R103). Portals 1 and 2 stand at places 0 and 1. -/
structure Psq where
  config : Vector PortalConfig 2
  portals : Vector Portal 2
  completions : List Completion
  inFlight : Nat
  posture : Posture
  deriving DecidableEq, Repr

/-! ## Lighting and Signal Engine (06) -/

/-- The record of a zone (R118) with its timers. -/
structure Zone where
  desired : Nat
  output : Nat
  part : GrantedPart
  fault : Bool
  steady : Bool
  lowCount : Nat
  goodCount : Nat
  test : Bool
  lampFresh : Freshness
  steadyTimer : Option Nat
  testTimer : Option Nat
  /-- the percent of expected current at the last counted measurement of the test in flight (R116) -/
  measured : Option Int
  deriving DecidableEq, Repr

/-- The zone record after reset (R118), before the part leaves reset. -/
def Zone.atReset : Zone :=
  { desired := 0, output := 0, part := .full, fault := false, steady := false, lowCount := 0, goodCount := 0,
    test := false, lampFresh := .never, steadyTimer := none, testTimer := none, measured := none }

/-- The state of the LSE (R104-R106, R118). Zones 1-8 stand at places 0-7. -/
structure Lse where
  config : Vector ZoneConfig 8
  scene : Scene
  zones : Vector Zone 8
  band : DayBand
  lumFresh : Freshness
  gates : Vector GateState 2
  posture : Posture
  deriving DecidableEq, Repr

/-! ## Command Filter (09) -/

/-- An entry of the output image (R151, R152). Node 0 is unassigned. -/
structure Slot where
  node : Nat
  channel : Nat
  target : Option Int
  emitted : Option Int
  pending : Bool
  source : Option SlotSource
  cls : Option SlotClass
  effective : Effective
  deriving DecidableEq, Repr

/-- A slot after reset (R168). -/
def Slot.atReset : Slot :=
  { node := 0, channel := 0, target := none, emitted := none, pending := false, source := none, cls := none,
    effective := .part }

/-- The state of the CFL (R151-R156, R164, R168). -/
structure Cfl where
  slots : Vector Slot 20
  /-- the last gate state told of each gate slot (R167) -/
  gates : Vector GateState 2
  authority : AuthorityTable
  rules : RuleTable
  supervision : Supervision
  timer : Option Nat
  /-- supervision has been PRESENT since the last reset (R166) -/
  firstPresence : Bool
  posture : Posture
  tier : Tier
  deriving DecidableEq, Repr

/-! ## Request Agent (10) -/

/-- The state of the RQA (R169, R170, R182, R186, R188, R189). -/
structure Rqa where
  /-- the reply slot is occupied -/
  replySlot : Bool
  accepted : Nat
  refused : Nat
  overrun : Nat
  store : Store
  /-- the commissioning values taken at the last reset -/
  inUse : Commissioned
  cause : ResetCause
  failed : Vector Bool 13
  heldReset : Bool
  deriving DecidableEq, Repr

/-! ## Internal announcements -/

/-- What the SIU hands an owner in one delivery (R127, R135): a freshness, a value of a channel with its flags, or both. -/
structure Delivery where
  fresh : Option Freshness
  channel : Nat
  value : Option Int
  flags : Half
  deriving DecidableEq, Repr

/-- An accounting completion as R10 announces it. -/
structure Accounting where
  time : Option Int
  inflow : Option Int
  deficit : Option Int
  held : Bool
  level : Option Int
  deriving DecidableEq, Repr

/-- The value of a REPLY: fixed when the request is taken, or what the part holds when the REPLY is placed. -/
inductive Result where
  | value (v : Int)
  /-- the posture after the request's handling (R180) -/
  | posture
  /-- the pump's place in the roster after the handling, with its collection as the detail (R181) -/
  | rosterPlace (i : Fin 6)
  deriving DecidableEq, Repr

/-- What a REPLY carries besides its request number (R170, R195). -/
structure Answer where
  status : Status
  detail : Nat
  result : Result
  deriving DecidableEq, Repr

/-- The receivers of a posture announcement (R34). -/
inductive Receiver where
  | sau | pdx | psq | lse | cfl
  deriving DecidableEq, Repr

/-- What one block still has to tell another, or to do after the announcements that stand before it, inside a handling. -/
inductive Task where
  /-- the cell of the RQA's routing reaches the RQA (R141) -/
  | request (c : Cell)
  /-- the cell of the CFL's routing reaches the CFL (R141, R158) -/
  | command (c : Cell)
  /-- the LIF offers a port B cell to the port A queue (R140) -/
  | forward (c : Cell)
  /-- the RQA offers its REPLY (R170) -/
  | reply (number index : Nat) (a : Answer)
  /-- a block raises an event after the announcements before it (R162) -/
  | emit (e : Event) (index : Nat) (value : Int) (hi lo : Nat)
  /-- the SIU delivers to the owner of an assignment; a float node's to the PEV (R135) -/
  | deliver (a : Assignment) (d : Delivery)
  /-- the SIU delivers a float node's value to the PDX (R135) -/
  | deliverFloatPdx (d : Delivery)
  /-- the SAU hands a level to the PDX (R9) -/
  | level (l : Int)
  /-- an accounting completion reaches the PEV (R10) -/
  | completionPev (a : Accounting)
  /-- an accounting completion reaches the PDX (R10) -/
  | completionPdx (a : Accounting)
  /-- the SAU starts its next period (R8, R10) -/
  | startPeriod
  /-- the PDX reports a pump state change to the PEV (R24) -/
  | pumpCount (n : Nat)
  /-- the PDX makes a dispatch, after recomputing demand where `recompute` is set (R45) -/
  | dispatch (recompute : Bool)
  /-- the PEV announces a posture change to a block (R34) -/
  | posture (r : Receiver) (new prev : Posture) (cause : PostureCause)
  /-- the LDA reports a grant or a withdrawal to a claim's owner (R72) -/
  | claim (o : Owner) (granted : Bool)
  /-- the LDA tells the CFL a new tier (R67) -/
  | tier (t : Tier)
  /-- the PSQ tells the LSE and the CFL a gate's new state (R98) -/
  | gate (p : Fin 2) (g : GateState)
  /-- the CFL tells an engine that a slot's effective authority changed (R154) -/
  | authority (s : Fin 20)
  /-- the CFL re-applies the standing rules to a slot (R163) -/
  | reapply (s : Fin 20)
  /-- the CFL applies a slot's fallback at the loss of supervision (R165) -/
  | fallback (s : Fin 20)
  /-- the CFL tells the LIF that supervision is lost (R145) -/
  | flush
  /-- the RQA offers TABLE_CHECK_FAILED for each failed table (R187) -/
  | tableReports
  /-- the LSE re-evaluates a zone (R107) -/
  | zone (z : Fin 8)
  deriving DecidableEq, Repr

/-! ## The part -/

/-- The state of the part with the queue of waiting commands. -/
structure State where
  /-- the waiting commands, first in, first out -/
  pending : List Instr
  /-- announcements a handling has not yet taken (log 2) -/
  agenda : List Task
  /-- DESIGN CHOICE (log 3). The tape from which orders the spec leaves open are taken; nothing rests on its contents. -/
  choices : List Nat
  uptime : Word
  /-- clear while a SUPPLY reset holds the part (R188) -/
  running : Bool
  site : Site
  /-- whether the check word of each persisted table matches its contents (R185) -/
  checkOk : Vector Bool 13
  lif : Lif
  siu : Siu
  sau : Sau
  pev : Pev
  pdx : Pdx
  lda : Lda
  psq : Psq
  lse : Lse
  cfl : Cfl
  rqa : Rqa
  deriving DecidableEq, Repr

/-- The part never stops with a fault: what the spec calls a fault is an effect on State. -/
inductive Fault where
  deriving DecidableEq, Repr

/-- Refusals of the model. -/
inductive Refusal where
  /-- raised by an arm of `exec` whose command has no meaning yet; safe. No arm raises it now. -/
  | notModelled (mnemonic : String)
  deriving DecidableEq, Repr

/-! ## After reset -/

/-- The FILL cell of an unprogrammed part, at address 62 (R138, R191). -/
def fillAtReset : Cell :=
  { kind := 7, source := 62, dest := 0, selector := 0, value := 0, aux := 0, index := 0, check := 0xD2 }

/-- R150. -/
def Lif.atReset : Lif :=
  { queue := [], headSending := false, txA := fillAtReset, fifo := [], txB := fillAtReset, checkErrorsA := 0,
    checkErrorsB := 0, malformedA := 0, malformedB := 0, foreign := 0, misdirected := 0, forwardDrops := 0,
    eventDrops := 0, passDrops := 0, eventsLost := false }

/-- R119, R137. -/
def Siu.atReset : Siu :=
  { nodes := [], marks := Vector.replicate 27 false, unknown := [], roleMismatch := 0, unknownSource := 0 }

/-- R22; the first period lasts P x m = 20 s (R8). -/
def Sau.atReset : Sau :=
  { table := .default, staging := none, est := none, overTable := false, held := true, first := true, heldSeen := false,
    baseline := none, level := none, count := none, usedLevel := none, levelFresh := .never, flowFresh := .never,
    cAvail := 0, vRoad := none, periodLength := 20, periodTimer := some 20, posture := .dry }

/-- R24, R36. -/
def Pev.atReset : Pev :=
  { posture := .dry, candidate := .dry, descent := .stopped, forced := false, thresholds := .default, time := none,
    inflow := none, deficit := none, held := true, level := none, depth := Vector.replicate 2 none,
    depthFresh := Vector.replicate 2 .never, lowFloat := none, highFloat := none, floatFresh := .never, pumpCount := 0 }

/-- R38, R39, R41, R42, R45: two pumps are installed on an unprogrammed part (R182). -/
def Pdx.atReset : Pdx :=
  { config := Vector.replicate 6 .default, pumps := Vector.replicate 6 .atReset, roster := [0, 1],
    faultSet := Vector.replicate 6 false, lockoutSet := Vector.replicate 6 false, ladder := .default,
    active := Vector.replicate 6 false, demand := 0, posture := .dry, held := true, inflow := none, lowFloat := none,
    highFloat := none, floatFresh := .never }

/-- R80: the signal reserve of 40 is granted, so 5960 of the MAINS limit of 6000 is left for pumps (R78). -/
def Lda.atReset : Lda :=
  { mains := none, generator := none, battery := none, fresh := .never, cls := .normal, low := false, tier := .mains,
    limits := .default, claims := [{ owner := .reserve, amount := 40, granted := true }], allowance := 5960, cAvail := 0 }

/-- R103; no presence node is assigned, so each reading is CLEAR (R84). -/
def Psq.atReset : Psq :=
  { config := Vector.replicate 2 .default, portals := Vector.replicate 2 (.atReset .clear), completions := [],
    inFlight := 0, posture := .dry }

/-- R118; as the part leaves reset the two installed zones, PART by default, take the DRY and NIGHT level of 40 as desired
level; having no lamp node they take output 0. -/
def Lse.atReset : Lse :=
  { config := zoneTableDefault, scene := .default,
    zones := ((Vector.replicate 8 Zone.atReset).set 0 { Zone.atReset with desired := 40 }).set 1
      { Zone.atReset with desired := 40 },
    band := .night, lumFresh := .never, gates := Vector.replicate 2 .unknown, posture := .dry }

/-- R168; as the part leaves reset the LSE writes the aspects of portal 1: beacon slow, stop lamp flash (R113, R118). -/
def Cfl.atReset : Cfl :=
  { slots := ((Vector.replicate 20 Slot.atReset).set 8
        { Slot.atReset with target := some 1, pending := true, source := some .engine, cls := some .safety }).set 9
        { Slot.atReset with channel := 1, target := some 2, pending := true, source := some .engine, cls := some .safety },
    gates := Vector.replicate 2 .unknown, authority := .default, rules := .default, supervision := .lost, timer := none,
    firstPresence := false, posture := .dry, tier := .mains }

/-- R169, R182, R188. -/
def Rqa.atReset : Rqa :=
  { replySlot := false, accepted := 0, refused := 0, overrun := 0, store := .default, inUse := .unprogrammed,
    cause := .powerUp, failed := Vector.replicate 13 false, heldReset := false }

/-- The part right after a POWER_UP reset with the non-volatile store at its defaults (log 4): a new part, out of reset. -/
def State.reset : State :=
  { pending := [], agenda := [], choices := [], uptime := 0, running := true, site := .default,
    checkOk := Vector.replicate 13 true, lif := .atReset, siu := .atReset, sau := .atReset, pev := .atReset,
    pdx := .atReset, lda := .atReset, psq := .atReset, lse := .atReset, cfl := .atReset, rqa := .atReset }

end Sys2Proof.Machine
end

