-- ==== Sys2Proof/Machine/Ops.lean ====
section
/-! DEFINITION. The operations every block shares: counters, records in vectors, cells and their check, the port A queue, the
pass-through FIFO, the output image, the agenda of internal announcements and the choices the spec leaves open. -/

namespace Sys2Proof.Machine

/-! ## Records in vectors -/

/-- The vector with one place changed. -/
def upd {α : Type} {n : Nat} (v : Vector α n) (i : Fin n) (f : α → α) : Vector α n := v.set i (f v[i])

/-- The vector with every place changed. -/
def each {α β : Type} {n : Nat} (v : Vector α n) (f : α → β) : Vector β n := Vector.ofFn fun i => f v[i]

/-- A number as a place of `n`, where it is one. -/
def place (n k : Nat) : Option (Fin n) := if h : k < n then some ⟨k, h⟩ else none

/-- A portal number 1-2 or a zone number 1-8 as a place counted from 0 (00_scope.md, "Numbering of devices"). -/
def placeFrom1 (n k : Nat) : Option (Fin n) := if k = 0 then none else place n (k - 1)

/-! ## Counters and packed quantities -/

/-- A counter rises by 1 and stops at 65535 (00_scope.md, "Counters"). -/
def bump (n : Nat) : Nat := if n < 65535 then n + 1 else 65535

/-- A timer has no seconds left: its expiry may be taken (log 6). A restart taken first leaves no expiry to take. -/
def expired (t : Option Nat) : Bool := t = some 0

/-- The absent marker of a 32-bit value (R192). -/
def absent : Int := -2147483648

/-- A 32-bit value that may be absent (R192). -/
def orAbsent (v : Option Int) : Int := v.getD absent

/-- A natural number that may be absent, as a 32-bit value (R192). -/
def natOrAbsent (v : Option Nat) : Int := (v.map Int.ofNat).getD absent

/-- A bit as a number: set 1, clear 0. -/
def bit (b : Bool) : Nat := if b then 1 else 0

/-- The signed value of 32 bits that carries an integer. -/
def wordOf (v : Int) : Word := BitVec.ofInt 32 v

/-- Two halves packed, the first in the high 16 bits (R195). A half is taken modulo 65536. -/
def packHalves (hi lo : Int) : Int := (hi % 65536) * 65536 + lo % 65536

/-- The absent marker of a 16-bit half (R192). -/
def absentHalf : Int := 32768

/-! ## The check byte (R191) -/

/-- One shift of R191: where the outgoing bit is 1, the shifted remainder is exclusive-ORed with 07h. -/
def crcShift (r : Byte) : Byte := if r.msb then (r <<< 1) ^^^ 7#8 else r <<< 1

/-- One byte of R191: exclusive-OR, then eight shifts. -/
def crcByte (r b : Byte) : Byte :=
  crcShift (crcShift (crcShift (crcShift (crcShift (crcShift (crcShift (crcShift (r ^^^ b))))))))

/-- Bytes 0 to 10 of a cell, in the order of R190. -/
def cellBytes (c : Cell) : List Byte :=
  [c.kind, c.source, c.dest, c.selector, c.value.extractLsb' 24 8, c.value.extractLsb' 16 8, c.value.extractLsb' 8 8,
    c.value.extractLsb' 0 8, c.aux.extractLsb' 8 8, c.aux.extractLsb' 0 8, c.index]

/-- The check of a cell (R191). -/
def crc (c : Cell) : Byte := (cellBytes c).foldl crcByte 0

/-- The cell with its check formed (R138, R191). -/
def withCheck (c : Cell) : Cell := { c with check := crc c }

/-- The part's own loop address (R138, R150). -/
def ownAddress (s : State) : Nat := s.rqa.inUse.address

/-- A cell the part originates, with its check (R138). `hi` and `lo` are bytes 8 and 9. -/
def formCell (s : State) (kind dest selector : Nat) (value : Int) (hi lo index : Nat) : Cell :=
  withCheck
    { kind := BitVec.ofNat 8 kind, source := BitVec.ofNat 8 (ownAddress s), dest := BitVec.ofNat 8 dest,
      selector := BitVec.ofNat 8 selector, value := wordOf value, aux := BitVec.ofNat 16 ((hi % 256) * 256 + lo % 256),
      index := BitVec.ofNat 8 index, check := 0 }

/-- The FILL cell (R138). -/
def fillCell (s : State) : Cell := formCell s 7 0 0 0 0 0 0

/-! ## The port A queue (R143, R144) -/

/-- The count and the flag of an entry that is not admitted (R144). A reply always finds its slot. -/
def dropEntry (k : EntryKind) (s : State) : State :=
  match k with
  | .forwarded => { s with lif.forwardDrops := bump s.lif.forwardDrops }
  | .event => { s with lif.eventDrops := bump s.lif.eventDrops, lif.eventsLost := true }
  | .reply => s

/-- An offer to the port A queue: admitted at the tail by the free slots its kind needs, else dropped (R144). -/
def offer (k : EntryKind) (c : Cell) (s : State) : State :=
  if s.lif.queue.length + k.needs ≤ 24 then { s with lif.queue := s.lif.queue ++ [{ kind := k, cell := c }] }
  else dropEntry k s

/-- The cell of an event (R199). -/
def eventCell (s : State) (e : Event) (index : Nat) (value : Int) (hi lo : Nat) : Cell :=
  formCell s 6 0 e.code value hi lo index

/-- A block raises an event: it is formed and offered at once (R199, R144). -/
def emit (e : Event) (index : Nat) (value : Int) (hi lo : Nat) (s : State) : State :=
  offer .event (eventCell s e index value hi lo) s

/-- A cell is offered to the pass-through FIFO (R146). -/
def offerPassThrough (c : Cell) (s : State) : State :=
  if s.lif.fifo.length < 8 then { s with lif.fifo := s.lif.fifo ++ [c] }
  else { s with lif.passDrops := bump s.lif.passDrops }

/-! ## The agenda and the open choices -/

/-- An announcement is put behind those of the present handling (log 2). -/
def post (t : Task) (s : State) : State := { s with agenda := s.agenda ++ [t] }

/-- Several announcements, in their order. -/
def postAll (ts : List Task) (s : State) : State := { s with agenda := s.agenda ++ ts }

/-- An element put in at a place. -/
def insertAt {α : Type} : Nat → α → List α → List α
  | 0, x, ys => x :: ys
  | _ + 1, x, [] => [x]
  | n + 1, x, y :: ys => y :: insertAt n x ys

/-- The list in the order a number picks; 0 picks the order as written. -/
def permute {α : Type} : Nat → List α → List α
  | _, [] => []
  | n, x :: xs => insertAt (n % (xs.length + 1)) x (permute (n / (xs.length + 1)) xs)

/-- Announcements that reach different blocks and are not ordered between them (R34, R135, R145): the order is taken from the
tape of choices (log 3). -/
def postUnordered (ts : List Task) (s : State) : State :=
  match s.choices, ts with
  | n :: rest, t :: u :: more => postAll (permute n (t :: u :: more)) { s with choices := rest }
  | _, _ => postAll ts s

/-! ## Installed devices (R182) -/

/-- The pump is installed. -/
def pumpInstalled (i : Fin 6) (s : State) : Bool := i.val < s.rqa.inUse.pumps

/-- The portal is installed. -/
def portalInstalled (p : Fin 2) (s : State) : Bool := p.val < s.rqa.inUse.portals

/-- The zone is installed. -/
def zoneInstalled (z : Fin 8) (s : State) : Bool := z.val < s.rqa.inUse.zones

/-- The installed pumps in index order. -/
def installedPumps (s : State) : List (Fin 6) := (List.finRange 6).filter fun i => pumpInstalled i s

/-- The installed portals in order. -/
def installedPortals (s : State) : List (Fin 2) := (List.finRange 2).filter fun p => portalInstalled p s

/-- The installed zones in order. -/
def installedZones (s : State) : List (Fin 8) := (List.finRange 8).filter fun z => zoneInstalled z s

/-! ## The output image (R151, R152, R155) -/

/-- The slot of a pump. -/
def pumpSlot (i : Fin 6) : Fin 20 := ⟨i.val, by omega⟩

/-- The slot of a gate. -/
def gateSlot (p : Fin 2) : Fin 20 := ⟨6 + p.val, by omega⟩

/-- The slot of a beacon. -/
def beaconSlot (p : Fin 2) : Fin 20 := ⟨8 + 2 * p.val, by omega⟩

/-- The slot of a stop lamp. -/
def stopSlot (p : Fin 2) : Fin 20 := ⟨9 + 2 * p.val, by omega⟩

/-- The slot of a zone. -/
def zoneSlot (z : Fin 8) : Fin 20 := ⟨12 + z.val, by omega⟩

/-- The output a slot is fixed to (R151). -/
inductive Output where
  | pump (i : Fin 6)
  | gate (p : Fin 2)
  | beacon (p : Fin 2)
  | stopLamp (p : Fin 2)
  | zone (z : Fin 8)
  deriving DecidableEq, Repr

/-- R151. -/
def outputOf (k : Fin 20) : Output :=
  if h : k.val < 6 then .pump ⟨k.val, h⟩
  else if k.val = 6 then .gate 0
  else if k.val = 7 then .gate 1
  else if k.val = 8 then .beacon 0
  else if k.val = 9 then .stopLamp 0
  else if k.val = 10 then .beacon 1
  else if k.val = 11 then .stopLamp 1
  else .zone ⟨(k.val - 12) % 8, by omega⟩

/-- A slot is installed with its device (R151). -/
def slotInstalled (k : Fin 20) (s : State) : Bool :=
  match outputOf k with
  | .pump i => pumpInstalled i s
  | .gate p => portalInstalled p s
  | .beacon p => portalInstalled p s
  | .stopLamp p => portalInstalled p s
  | .zone z => zoneInstalled z s

/-- The class a write gives a slot (R152). -/
def slotClass (k : Fin 20) (v : Int) : SlotClass :=
  match outputOf k with
  | .pump _ => if v = 0 then .safety else .ordinary
  | .gate _ => .safety
  | .beacon _ => .safety
  | .stopLamp _ => .safety
  | .zone _ => .ordinary

/-- A write to a slot: target, source, class and pending mark (R152). An uninstalled slot takes no write (R151). -/
def writeSlot (k : Fin 20) (v : Int) (src : SlotSource) (s : State) : State :=
  if slotInstalled k s then
    { s with cfl.slots := upd s.cfl.slots k fun e =>
        { e with target := some v, pending := true, source := some src, cls := some (slotClass k v) } }
  else s

/-- A write with source ENGINE, taken where the effective authority is PART (R155). -/
def engineWrite (k : Fin 20) (v : Int) (s : State) : State :=
  if s.cfl.slots[k].effective = .part then writeSlot k v .engine s else s

/-- The value an engine keeps in a slot: written with source ENGINE when it differs from the slot's target (R152). -/
def engineKeep (k : Fin 20) (v : Int) (s : State) : State :=
  if s.cfl.slots[k].target = some v then s else engineWrite k v s

/-- Whether the part has authority over a slot (R154). -/
def partHas (k : Fin 20) (s : State) : Bool := s.cfl.slots[k].effective = .part

/-! ## Persisted tables (R185) -/

/-- An accepted write stores the contents with a new check word in one update. -/
def writeThrough (t : Table) (s : State) : State := { s with checkOk := s.checkOk.set t.place true }

/-- "STORM, ALERT or CLOSED", in which many table writes are refused with POSTURE (R178). -/
def stormy (s : State) : Bool := s.pev.posture.stormOrAbove

end Sys2Proof.Machine
end

