-- ==== Sys2Proof/Machine/LoadAccount.lean ====
section
/-! DEFINITION. The Load Account (04_the_load_account.md): the claim list and its walk, asks, releases, the pump allowance
and C_avail, and the supply tier. -/

namespace Sys2Proof.Machine

/-! ## Walk order (R70, R71) -/

/-- The pumps in band order: roster order, then the pumps not in the roster by index (R70). -/
def pumpOrder (s : State) : List (Fin 6) :=
  s.pdx.roster ++ (List.finRange 6).filter fun i => !s.pdx.roster.contains i

/-- The zones in the order of band 5: shed priority 1 to 8, equal priorities by zone number (R70). -/
def upperOrder (s : State) : List (Fin 8) :=
  (List.range 9).flatMap fun p => (List.finRange 8).filter fun z => s.lse.config[z].shedPriority = p

/-- The owners of a band in band order (R70). -/
def bandOwners (s : State) : Nat → List Owner
  | 1 => [.reserve]
  | 2 => (List.finRange 2).map .gate
  | 3 => (List.finRange 8).map .floor
  | 4 => (pumpOrder s).map .pump
  | 5 => (upperOrder s).map .upper
  | _ => []

/-- The claim of an owner. -/
def claimOf (o : Owner) (cs : List Claim) : Option Claim := cs.find? fun c => c.owner = o

/-- The claims of a band, the granted ones first (R71). -/
def bandClaims (s : State) (cs : List Claim) (b : Nat) : List Claim :=
  let band := (bandOwners s b).filterMap fun o => claimOf o cs
  band.filter (·.granted) ++ band.filter fun c => !c.granted

/-- The walk order (R71). -/
def walkOrder (s : State) (cs : List Claim) : List Claim := [1, 2, 3, 4, 5].flatMap (bandClaims s cs)

/-! ## The walk (R72) -/

/-- Claims are granted while the running sum fits the limit; the first that does not fit, and every one after it, waits. -/
def grant (limit : Nat) : Nat → Bool → List Claim → List Claim
  | _, _, [] => []
  | sum, fits, c :: cs =>
    if fits && sum + c.amount ≤ limit then { c with granted := true } :: grant limit (sum + c.amount) true cs
    else { c with granted := false } :: grant limit sum false cs

/-- The limit of the present tier (R69). -/
def tierLimit (s : State) : Nat := s.lda.limits.ofTier s.lda.tier

/-- The claim list a walk would leave (R71, R72). -/
def walked (s : State) (cs : List Claim) : List Claim := grant (tierLimit s) 0 true (walkOrder s cs)

/-- The sum of the granted claims. -/
def grantedSum (cs : List Claim) : Nat := ((cs.filter (·.granted)).map (·.amount)).sum

/-- The sum of the waiting claims. -/
def waitingSum (cs : List Claim) : Nat := ((cs.filter fun c => !c.granted).map (·.amount)).sum

/-- An available pump: in the roster, effective authority PART, and IDLE, STARTING or RUNNING (R45). -/
def pumpAvailable (i : Fin 6) (s : State) : Bool :=
  s.pdx.roster.contains i && partHas (pumpSlot i) s &&
    (s.pdx.pumps[i].state = .idle || s.pdx.pumps[i].state = .starting || s.pdx.pumps[i].state = .running)

/-- The rated flow the allowance carries, over pumps in roster order, up to the first whose power does not fit (R78). -/
def carried (s : State) (allowance : Int) : Int → List (Fin 6) → Int
  | _, [] => 0
  | power, i :: rest =>
    let p := power + s.pdx.config[i].ratedPower
    if p ≤ allowance then s.pdx.config[i].ratedFlow + carried s allowance p rest else 0

/-- The pump allowance (R78). -/
def allowanceOf (s : State) : Int :=
  (tierLimit s : Int) - grantedSum (s.lda.claims.filter fun c => c.owner.band ≤ 3)

/-- C_avail (R78). -/
def cAvailOf (s : State) : Int := carried s (allowanceOf s) 0 (s.pdx.roster.filter fun i => pumpAvailable i s)

/-- The pump allowance and C_avail are recomputed and C_avail is handed to the SAU (R78). -/
def recomputeCAvail (s : State) : State :=
  { s with lda.allowance := allowanceOf s, lda.cAvail := cAvailOf s, sau.cAvail := cAvailOf s }

/-- The pairs of a claim before and after a walk whose state the walk changed, in walk order. -/
def changedClaims (before after : List Claim) : List Claim :=
  ((before.zip after).filter fun p => p.1.granted != p.2.granted).map (·.2)

/-- SHED (R72, R199). -/
def emitShed (c : Claim) (s : State) : State :=
  emit .shed c.owner.index c.owner.band c.owner.kindCode s.lda.tier.code s

/-- Two claims of one asker: a zone's floor and upper, or the same claim. -/
def Owner.sameLoad (a b : Owner) : Bool :=
  match a, b with
  | .floor z, .upper w => z = w
  | .upper z, .floor w => z = w
  | x, y => x = y

/-- A claim of a zone: its floor or its upper. -/
def Owner.ofZone : Owner → Bool
  | .floor _ => true
  | .upper _ => true
  | .reserve => false
  | .gate _ => false
  | .pump _ => false

/-- The changed claims that are reported to their owners. An asker learns the state of the claim it hands by the answer of its
ask (R73); the LSE, which computes its output after its hands (R108), is still told of each grant, so that a grant stands behind
the withdrawals told before it. -/
def toldClaims (asker : Option Owner) (changed : List Claim) : List Claim :=
  changed.filter fun c => (c.granted && c.owner.ofZone) || !(asker.any fun o => o.sameLoad c.owner)

/-- A walk (R72). SHED is offered for each withdrawal in walk order, and the grants and withdrawals are reported to their
owners in walk order. -/
def walk (asker : Option Owner) (s : State) : State :=
  let before := walkOrder s s.lda.claims
  let after := grant (tierLimit s) 0 true before
  let changed := changedClaims before after
  let shed := (changed.filter fun c => !c.granted).foldl (fun t c => emitShed c t) { s with lda.claims := after }
  recomputeCAvail (postAll ((toldClaims asker changed).map fun c => .claim c.owner c.granted) shed)

/-! ## Asks, changes and releases (R73-R76) -/

/-- The owner holds a claim. -/
def holdsClaim (o : Owner) (s : State) : Bool := (claimOf o s.lda.claims).isSome

/-- The owner's claim is GRANTED. -/
def claimGranted (o : Owner) (s : State) : Bool := (claimOf o s.lda.claims).any (·.granted)

/-- The claims with an owner's amount replaced, or a new WAITING claim entered. -/
def enterClaim (o : Owner) (amount : Nat) (cs : List Claim) : List Claim :=
  if (claimOf o cs).isSome then cs.map fun c => if c.owner = o then { c with amount := amount } else c
  else cs ++ [{ owner := o, amount := amount, granted := false }]

/-- A waiting ask, or a change of amount where the owner holds a claim (R73, R75). Its answer is `claimGranted`. -/
def askWaiting (o : Owner) (amount : Nat) (s : State) : State :=
  walk (some o) { s with lda.claims := enterClaim o amount s.lda.claims }

/-- The walk a waiting ask would make leaves the asker GRANTED (R74). -/
def wouldGrant (o : Owner) (amount : Nat) (s : State) : Bool :=
  (claimOf o (walked s (enterClaim o amount s.lda.claims))).any (·.granted)

/-- The ask is for no more than the owner's GRANTED claim (R74). -/
def withinGrant (o : Owner) (amount : Nat) (s : State) : Bool :=
  (claimOf o s.lda.claims).any fun c => c.granted && amount ≤ c.amount

/-- An ask at once (R74): the walk is made if it leaves the claim GRANTED; else nothing changes. -/
def askAtOnce (o : Owner) (amount : Nat) (s : State) : Bool × State :=
  if withinGrant o amount s || wouldGrant o amount s then (true, askWaiting o amount s) else (false, s)

/-- A release (R76). -/
def release (o : Owner) (s : State) : State :=
  if holdsClaim o s then walk (some o) { s with lda.claims := s.lda.claims.filter fun c => c.owner ≠ o } else s

/-! ## Supply (R65-R68) -/

/-- R66. `first` is set for the first battery value after a reset or a reassignment, which is classed without margins. -/
def classOf (l : Limits) (before : BatteryClass) (first : Bool) (v : Int) : BatteryClass :=
  if first || before = .normal then
    if l.criticalMv ≤ v then .normal else if l.cutoffMv ≤ v then .critical else .depleted
  else if (l.criticalMv + 100 : Int) ≤ v then .normal
  else if before = .critical then if l.cutoffMv ≤ v then .critical else .depleted
  else if (l.cutoffMv + 100 : Int) ≤ v then .critical else .depleted

/-- The battery value in units of 100 mV (R68, R199); how a part of a unit rounds is not stated (log 9). -/
def batteryUnits (v : Int) : Int := if v % 100 = 0 then v / 100 else Config.batteryUnits v

/-- The low-battery flag at a battery value (R68). -/
def lowBattery (v : Int) (s : State) : State :=
  if s.lda.tier = .battery ∧ v < s.lda.limits.lowMv ∧ s.lda.low = false then
    emit .batteryLow 0 (batteryUnits v) 0 0 { s with lda.low := true }
  else if (s.lda.limits.lowMv + 100 : Int) ≤ v then { s with lda.low := false }
  else s

/-- The tier the copies give (R67). -/
def derivedTier (s : State) : Tier :=
  match s.lda.mains with
  | none => s.lda.tier
  | some 0 =>
    if s.lda.generator = some 1 then .generator
    else match s.lda.cls with
      | .normal => .battery
      | .critical => .critical
      | .depleted => .depleted
  | some _ => .mains

/-- A change of tier: TIER, the walk, C_avail, and the announcement to the CFL (R67); the low-battery flag is cleared at a
tier other than BATTERY (R68). -/
def changeTier (t : Tier) (s : State) : State :=
  let told := emit .tier 0 t.code 0 s.lda.tier.code s
  let moved := { told with lda.tier := t, lda.low := told.lda.low && t = .battery }
  post (.tier t) (walk none moved)

/-- A tier derivation (R67). -/
def deriveTier (s : State) : State :=
  if derivedTier s = s.lda.tier then s else changeTier (derivedTier s) s

/-- A battery value updates the class and the low-battery flag, and replaces the copy (R65, R66, R68). -/
def takeBattery (v : Int) (s : State) : State :=
  let c := classOf s.lda.limits s.lda.cls s.lda.battery.isNone v
  lowBattery v { s with lda.cls := c, lda.battery := some v }

/-- A supply value of a channel (R65). -/
def takeSupply (channel : Nat) (v : Int) (s : State) : State :=
  match channel with
  | 0 => deriveTier { s with lda.mains := some (if v = 0 then 0 else 1) }
  | 1 => deriveTier { s with lda.generator := some (if v = 0 then 0 else 1) }
  | 2 => deriveTier (takeBattery v s)
  | _ => s

/-- What the SIU delivers for the supply node (R65). -/
def supplyDelivery (d : Delivery) (s : State) : State :=
  let fresh := { s with lda.fresh := d.fresh.getD s.lda.fresh }
  match d.value with
  | some v => takeSupply d.channel v fresh
  | none => fresh

/-- The signal reserve claim at the reserve's amount. -/
def reserveClaim (l : Limits) : Claim := { owner := .reserve, amount := l.reserve, granted := true }

end Sys2Proof.Machine
end

