-- ==== Sys2Proof/Machine/Operands.lean ====
section
/-! DEFINITION. What a command's bytes name: the fields of a cell, the node an assignment names (R123, R124), and the places
of the tables an index byte names (R198). -/

namespace Sys2Proof.Machine

/-! ## The fields of a cell (R190) -/

/-- The value, signed. -/
def cellValue (c : Cell) : Int := c.value.toInt

/-- Byte 8: the table id of a REQUEST. -/
def auxHigh (c : Cell) : Byte := c.aux.extractLsb' 8 8

/-- Byte 9: the field id of a REQUEST. -/
def auxLow (c : Cell) : Byte := c.aux.extractLsb' 0 8

/-- A cell is malformed when its kind is outside 1-7 or an address is above 62 (R139). -/
def cellMalformed (c : Cell) : Bool :=
  !(1 ≤ c.kind.toNat && c.kind.toNat ≤ 7) || 62 < c.source.toNat || 62 < c.dest.toNat

/-! ## Assignments (R123, R124) -/

/-- The place of an assignment's report mark, in the order of `Assignment.all`. -/
def Assignment.mark : Assignment → Fin 27
  | .level => 0
  | .flowmeter => 1
  | .float => 2
  | .depth1 => 3
  | .depth2 => 4
  | .luminance => 5
  | .supply => 6
  | .starter i => ⟨7 + i.val, by omega⟩
  | .drive p => ⟨13 + p.val, by omega⟩
  | .presence p => ⟨15 + p.val, by omega⟩
  | .signal p => ⟨17 + p.val, by omega⟩
  | .lamp z => ⟨19 + z.val, by omega⟩

/-- The address an assignment field holds; 0 is unassigned (R123). -/
def assignedAddress (a : Assignment) (s : State) : Nat :=
  match a with
  | .level => s.site.levelNode
  | .flowmeter => s.site.flowNode
  | .float => s.site.floatNode
  | .depth1 => s.site.depthNode1
  | .depth2 => s.site.depthNode2
  | .luminance => s.site.lumNode
  | .supply => s.site.supplyNode
  | .starter i => s.pdx.config[i].starterNode
  | .drive p => s.psq.config[p].driveNode
  | .presence p => s.psq.config[p].presenceNode
  | .signal p => s.psq.config[p].signalNode
  | .lamp z => s.lse.config[z].lampNode

/-- The device an assignment serves is installed. -/
def assignmentInstalled (a : Assignment) (s : State) : Bool :=
  match a with
  | .starter i => pumpInstalled i s
  | .drive p => portalInstalled p s
  | .presence p => portalInstalled p s
  | .signal p => portalInstalled p s
  | .lamp z => zoneInstalled z s
  | .level => true
  | .flowmeter => true
  | .float => true
  | .depth1 => true
  | .depth2 => true
  | .luminance => true
  | .supply => true

/-- The record of an address. -/
def findNode (address : Nat) (s : State) : Option Node := s.siu.nodes.find? fun n => n.address = address

/-- A record fits an assignment: its role, and for a zone its channel count (R124). -/
def nodeFits (a : Assignment) (n : Node) (s : State) : Bool :=
  n.role = a.role &&
    match a with
    | .lamp z => s.lse.config[z].channel < n.channels.length
    | _ => true

/-- The node an assignment names, none where it is treated as unassigned (R124). -/
def assignedRecord (a : Assignment) (s : State) : Option Node :=
  if assignedAddress a s = 0 then none
  else (findNode (assignedAddress a s) s).filter fun n => nodeFits a n s

/-- The assignment names a node its owner can use (R124). -/
def assigned (a : Assignment) (s : State) : Bool := (assignedRecord a s).isSome

/-- The assignments of installed devices that name a node, in the order of R123: the zones that one lamp node serves in ascending
number, an order no rule gives (log 39). -/
def assignmentsOf (address : Nat) (s : State) : List Assignment :=
  Assignment.all.filter fun a =>
    assignmentInstalled a s && (assignedRecord a s).any fun n => n.address = address

/-- The channel an assignment takes values of: `none` where every channel of the node serves it (R135). -/
def Assignment.channel (a : Assignment) (s : State) : Option Nat :=
  match a with
  | .lamp z => some s.lse.config[z].channel
  | .float => none
  | .supply => none
  | .level => some 0
  | .flowmeter => some 0
  | .depth1 => some 0
  | .depth2 => some 0
  | .luminance => some 0
  | .starter _ => some 0
  | .drive _ => some 0
  | .presence _ => some 0
  | .signal _ => none

/-! ## Indices -/

/-- An installed pump by its number. -/
def pumpIndex (k : Nat) (s : State) : Option (Fin 6) := (place 6 k).filter fun i => pumpInstalled i s

/-- An installed portal by its number 1-2. -/
def portalIndex (k : Nat) (s : State) : Option (Fin 2) := (placeFrom1 2 k).filter fun p => portalInstalled p s

/-- An installed zone by its number 1-8. -/
def zoneIndex (k : Nat) (s : State) : Option (Fin 8) := (placeFrom1 8 k).filter fun z => zoneInstalled z s

end Sys2Proof.Machine
end

