-- ==== Sys2Proof/Machine/Gates.lean ====
section
/-! DEFINITION. The Portal Sequencer (05_portal_gates.md): presence, drive reports, adoption, motion and power, close and open
decisions, faults, the completion list and the requests on gates. -/

namespace Sys2Proof.Machine

/-- A portal record changed. -/
def setGate (p : Fin 2) (f : Portal → Portal) (s : State) : State := { s with psq.portals := upd s.psq.portals p f }

/-- The portal number (00_scope.md, "Numbering of devices"). -/
def portalNumber (p : Fin 2) : Nat := p.val + 1

/-! ## The flags of a gate drive (R193) -/

/-- aux bit 0: open-limit. -/
def openLimitFlag (f : Half) : Bool := f.getLsbD 0

/-- aux bit 1: closed-limit. -/
def closedLimitFlag (f : Half) : Bool := f.getLsbD 1

/-- aux bit 2: moving. -/
def movingFlag (f : Half) : Bool := f.getLsbD 2

/-- aux bit 3: trip. -/
def tripFlag (f : Half) : Bool := f.getLsbD 3

/-- aux bit 4: position-valid. -/
def validFlag (f : Half) : Bool := f.getLsbD 4

/-! ## Records -/

/-- Every timer of a gate stopped. -/
def Portal.stopTimers (g : Portal) : Portal :=
  { g with warning := none, clear := none, holdLong := none, progress := none, homing := none }

/-- The motion of a gate in a state of motion is commanded unless it waits for power (R88). -/
def Portal.commanded (g : Portal) : Bool := g.state.moving && !g.powerWait

/-- The slot value of a goal (R82): travel, 0 or -1. -/
def goalValue (p : Fin 2) (t : Goal) (s : State) : Int :=
  match t with
  | .close => s.psq.config[p].travel
  | .open => 0
  | .home => -1

/-- The state of motion of a goal (R87). -/
def Goal.motion : Goal → GateState
  | .close => .closing
  | .open => .opening
  | .home => .homing

/-- The length of the homing timer (R89). -/
def homingTime (c : PortalConfig) : Nat := c.fullTravel * 9 / 8 + 10

/-- A reported position clamped into 0 to travel (R85). -/
def clampPosition (p : Fin 2) (v : Int) (s : State) : Int := max 0 (min s.psq.config[p].travel v)

/-- A stop target, the value of the last report, is written into the gate's slot (R88, R92, R97). -/
def writeStop (p : Fin 2) (s : State) : State :=
  match s.psq.portals[p].reportValue with
  | some v => engineWrite (gateSlot p) v s
  | none => s

/-! ## Announcing (R98) -/

/-- GATE_STATE (R98, R199). -/
def emitGateState (p : Fin 2) (new prev : GateState) (cause : GateCause) (s : State) : State :=
  emit .gateState (portalNumber p) (orAbsent s.psq.portals[p].position) new.code (prev.code * 16 + cause.code) s

/-- A gate's state changes: GATE_STATE, and the LSE and the CFL are told (R98). A state that stays is no change. -/
def changeGate (p : Fin 2) (new : GateState) (cause : GateCause) (s : State) : State :=
  if s.psq.portals[p].state = new then s
  else
    post (.gate p new) <| emitGateState p new s.psq.portals[p].state cause <|
      setGate p (fun g => { g with state := new }) s

/-! ## The completion list (R99) -/

/-- COMPLETION_READY (R99, R199). -/
def emitReady (op : Operation) (target : Nat) (o : OpOutcome) (s : State) : State :=
  emit .completionReady target 0 op.code o.code s

/-- An operation posts its entry (R99). -/
def postEntry (op : Operation) (target : Nat) (o : OpOutcome) (detail : Option Int) (s : State) : State :=
  emitReady op target o { s with
    psq.inFlight := s.psq.inFlight - 1,
    psq.completions := s.psq.completions ++ [{ op := op, target := target, outcome := o, detail := detail,
                                               uptime := s.uptime }] }

/-- The request operation in flight on a gate ends, whatever it is, with a detail. -/
def endOpWith (p : Fin 2) (o : OpOutcome) (detail : Option Int) (s : State) : State :=
  match s.psq.portals[p].op with
  | none => s
  | some op => postEntry op (portalNumber p) o detail (setGate p (fun g => { g with op := none }) s)

/-- The request operation in flight on a gate ends, whatever it is. -/
def endOp (p : Fin 2) (o : OpOutcome) (s : State) : State := endOpWith p o s.psq.portals[p].position s

/-- The request operation in flight on a gate ends if it is the one named. -/
def endOpIf (p : Fin 2) (op : Operation) (o : OpOutcome) (s : State) : State :=
  if s.psq.portals[p].op = some op then endOp p o s else s

/-- The entries and the operations in flight fill the list (R99). -/
def listFull (s : State) : Bool := 8 ≤ s.psq.completions.length + s.psq.inFlight

/-- An operation is accepted on a gate: a slot is reserved (R99). -/
def reserveOp (p : Fin 2) (op : Operation) (s : State) : State :=
  setGate p (fun g => { g with op := some op }) { s with psq.inFlight := s.psq.inFlight + 1 }

/-! ## Faults (R97) -/

/-- A gate enters FAULT (R97). One that is in FAULT already, at a motion start toward a drive that is not FRESH, offers GATE_FAULT and
no GATE_STATE, since its state does not change (log 48). -/
def enterGateFault (p : Fin 2) (reason : GateFault) (s : State) : State :=
  let faulted := setGate p (fun g =>
    { g.stopTimers with fault := some reason, target := none, powerWait := false, warned := false }) s
  let ended := endOp p .equipment (release (.gate p) (writeStop p faulted))
  let told := emit .gateFault (portalNumber p) (orAbsent ended.psq.portals[p].position) 0 reason.code ended
  changeGate p .fault .fault told

/-! ## Holding (R92, R93) -/

/-- What an entry to HELD with target travel, or a close decision in HELD, starts (R93). -/
def startHold (p : Fin 2) (s : State) : State :=
  setGate p (fun g =>
    { g with
      holdLong := if g.holdLong.isNone && !g.heldLong then some s.psq.config[p].holdLong else g.holdLong,
      clear := if g.presence = .clear then some s.psq.config[p].clear else none }) s

/-- A gate goes to HELD with target travel; a new stay begins (R92, R93). -/
def toHeld (p : Fin 2) (cause : GateCause) (s : State) : State :=
  startHold p <| changeGate p .held cause <| setGate p (fun g =>
    { g.stopTimers with target := some .close, heldLong := false }) s

/-- A gate that waits for power releases its claim and its power-wait is cleared, also where a walk has granted the claim and the
grant is still to be reported; the GRANTED claim of a commanded motion is kept until the drive is still (R88, R90). -/
def dropWait (p : Fin 2) (s : State) : State :=
  let cleared := setGate p (fun g => { g with powerWait := false }) s
  if claimGranted (.gate p) s && !s.psq.portals[p].powerWait then cleared else release (.gate p) cleared

/-! ## Motion and power (R87, R88) -/

/-- The motion toward a goal, with the claim granted: the target is written and the timer starts (R87). -/
def moveToward (p : Fin 2) (t : Goal) (cause : GateCause) (s : State) : State :=
  let c := s.psq.config[p]
  changeGate p t.motion cause <| engineWrite (gateSlot p) (goalValue p t s) <| setGate p (fun g =>
    { g.stopTimers with
      powerWait := false,
      progress := if t = .home then none else some c.window,
      homing := if t = .home then some (homingTime c) else none,
      closedBy := if t = .home then none else g.closedBy }) s

/-- A close that finds the sweep occupied: the claim is released, power-wait cleared, and the gate is held (R87, R92). -/
def holdInstead (p : Fin 2) (cause : GateCause) (s : State) : State :=
  let freed := release (.gate p) (setGate p (fun g => { g with powerWait := false }) s)
  if s.psq.portals[p].state = .held then freed else toHeld p cause freed

/-- The motion begins toward the record's target (R87). -/
def beginMotion (p : Fin 2) (cause : GateCause) (s : State) : State :=
  match s.psq.portals[p].target with
  | none => s
  | some .close => if s.psq.portals[p].presence = .clear then moveToward p .close cause s else holdInstead p cause s
  | some .open => moveToward p .open cause s
  | some .home => moveToward p .home cause s

/-- Power-wait set (R87). -/
def waitForPower (p : Fin 2) (s : State) : State := setGate p (fun g => { g with powerWait := true }) s

/-- A motion start (R87). -/
def motionStart (p : Fin 2) (cause : GateCause) (s : State) : State :=
  if s.psq.portals[p].driveFresh ≠ .fresh then enterGateFault p .driveSilent s
  else if claimGranted (.gate p) s then beginMotion p cause s
  else if holdsClaim (.gate p) s then waitForPower p s
  else
    let asked := askWaiting (.gate p) s.psq.config[p].power s
    if claimGranted (.gate p) asked then beginMotion p cause asked else waitForPower p asked

/-- The LDA reports a grant of a gate's claim (R87, R88). The grant that would resume a withdrawn motion makes the motion start of R87
anew, with its test of the drive's freshness (log 49). -/
def gateGranted (p : Fin 2) (s : State) : State :=
  if claimGranted (.gate p) s then
    if s.psq.portals[p].target.isNone then release (.gate p) s
    else if s.psq.portals[p].powerWait then motionStart p .power s
    else s
  else s

/-- The LDA reports a withdrawal of a gate's claim (R88), also where a later walk has granted the claim again: that grant is
reported after it and resumes the motion. -/
def gateWithdrawn (p : Fin 2) (s : State) : State :=
  if holdsClaim (.gate p) s then
    if s.psq.portals[p].commanded then
      endOp p .abnormal <| setGate p (fun g => { g with progress := none, homing := none, powerWait := true }) <|
        writeStop p s
    else if s.psq.portals[p].state.moving || s.psq.portals[p].powerWait then s
    else release (.gate p) s
  else s

/-! ## Close decisions (R90, R101) -/

/-- OPEN, at a close decision: WARNING with the warning timer (R90). -/
def warnGate (p : Fin 2) (by' : ClosedBy) (cause : GateCause) (s : State) : State :=
  changeGate p .warning cause <| setGate p (fun g =>
    { g.stopTimers with
      warning := some s.psq.config[p].warning, warned := false, target := some .close, closedBy := some by' }) <|
    dropWait p s

/-- HELD with target 0 or absent, at a close decision: the close proceeds under R93. -/
def closeHeld (p : Fin 2) (by' : ClosedBy) (s : State) : State :=
  startHold p <| setGate p (fun g => { g with target := some .close, closedBy := some by' }) <| dropWait p s

/-- OPENING, at a close decision: the gate is stopped and held; the claim is kept until the drive is still (R90, R101). -/
def reverseOpening (p : Fin 2) (by' : ClosedBy) (cause : GateCause) (s : State) : State :=
  toHeld p cause <| setGate p (fun g => { g with closedBy := some by' }) <| dropWait p <| writeStop p s

/-- The close decision of a CLOSED posture for a gate (R90); a MOVE_OPEN in flight ends before the gate's state changes (log 41). A
WARNING, CLOSING or OPENING gate that lost its position and waits to home takes its state's row (log 51). -/
def closeForPosture (p : Fin 2) (s : State) : State :=
  let takeOver := setGate p (fun g => { g with closedBy := some .posture })
  match s.psq.portals[p].state with
  | .open => warnGate p .posture .posture s
  | .warning => takeOver s
  | .closing => takeOver s
  | .held =>
    match s.psq.portals[p].target with
    | some .close => takeOver s
    | some .home => s
    | _ => closeHeld p .posture (endOpIf p .moveOpen .superseded s)
  | .opening => reverseOpening p .posture .posture (endOpIf p .moveOpen .superseded s)
  | .closed =>
    if s.psq.portals[p].target = some .open then
      dropWait p <| setGate p (fun g => { g with target := some .close, closedBy := some .posture }) <|
        endOpIf p .moveOpen .superseded s
    else s
  | .unknown => s
  | .homing => s
  | .fault => s

/-- A gate that reaches OPEN or is adopted into HELD while the posture is CLOSED receives a close decision (R86, R89). -/
def closeIfClosed (p : Fin 2) (s : State) : State := if s.psq.posture = .closed then closeForPosture p s else s

/-! ## Open decisions (R95, R101) -/

/-- WARNING, at an open decision: OPEN at once. -/
def openFromWarning (p : Fin 2) (cause : GateCause) (s : State) : State :=
  changeGate p .open cause <| setGate p (fun g =>
    { g.stopTimers with target := none, closedBy := none, warned := false }) <| dropWait p s

/-- CLOSING, at an open decision: OPENING with the claim kept. -/
def openFromClosing (p : Fin 2) (cause : GateCause) (s : State) : State :=
  let commanded := s.psq.portals[p].commanded
  let turned := setGate p (fun g =>
    { g.stopTimers with
      target := some .open, closedBy := none, warned := false,
      progress := if commanded then some s.psq.config[p].window else none }) s
  changeGate p .opening cause (if commanded then engineWrite (gateSlot p) 0 turned else turned)

/-- HELD or CLOSED, at an open decision: a motion start. -/
def openFromStill (p : Fin 2) (cause : GateCause) (s : State) : State :=
  motionStart p cause <| setGate p (fun g =>
    { g with target := some .open, closedBy := none, warned := false, clear := none, holdLong := none }) s

/-- The open decision of an accepted REOPEN for a gate (R95); a MOVE_CLOSE in flight ends before the gate's state changes
(log 41). -/
def openForReopen (p : Fin 2) (s : State) : State :=
  if s.psq.portals[p].closedBy = some .posture then
    let ended := endOpIf p .moveClose .superseded s
    match s.psq.portals[p].state with
    | .warning => openFromWarning p .reopen ended
    | .closing => openFromClosing p .reopen ended
    | .held => openFromStill p .reopen ended
    | .closed => openFromStill p .reopen ended
    | .unknown => s
    | .homing => s
    | .open => s
    | .opening => s
    | .fault => s
  else s

/-- A posture announcement reaches the PSQ (R90, R95). The installed gates take it in order of portal number, an order no rule gives
(log 40). -/
def psqPosture (new : Posture) (cause : PostureCause) (s : State) : State :=
  let held := { s with psq.posture := new }
  if new = .closed then (installedPortals held).foldl (fun t p => closeForPosture p t) held
  else if cause = .reopen then (installedPortals held).foldl (fun t p => openForReopen p t) held
  else held

/-! ## Drive reports (R85, R86, R89, R92, R94, R96) -/

/-- The position takes a value reported with position-valid set (R85). -/
def takePosition (p : Fin 2) (v : Int) (s : State) : State :=
  setGate p (fun g => { g with position := some (clampPosition p v s) }) s

/-- A gate reaches its open limit, with its operation if that is the one named (R89, R96); another one stays in flight (log 51). -/
def reachOpen (p : Fin 2) (op : Operation) (s : State) : State :=
  let there := setGate p (fun g => { g.stopTimers with position := some 0, target := none, powerWait := false }) s
  endOpIf p op .done (release (.gate p) (changeGate p .open .feedback there))

/-- A gate reaches its closed limit (R92, R94). -/
def reachClosed (p : Fin 2) (s : State) : State :=
  let there := setGate p (fun g =>
    { g.stopTimers with position := some (s.psq.config[p].travel : Int), target := none, powerWait := false }) s
  endOpIf p .moveClose .done (release (.gate p) (changeGate p .closed .feedback there))

/-- The drive has lost its position: the gate seeks its open limit (R85). -/
def losePosition (p : Fin 2) (s : State) : State :=
  motionStart p .lostPosition <| setGate p (fun g =>
    { g.stopTimers with position := none, warned := false, closedBy := none, target := some .home }) <|
    endOpWith p .equipment none s

/-- The adoption of a gate in UNKNOWN (R86). A gate that waits to home takes no adoption, neither a second one nor, where HOME GATE
was taken between a portal table write and the next STATE, the one that R81 announces (log 27). A STATE that shows both limits
is taken as one at the open limit (log 45). -/
def adoptGate (p : Fin 2) (v : Int) (flags : Half) (s : State) : State :=
  let travel : Int := s.psq.config[p].travel
  if s.psq.portals[p].target.isSome then (if validFlag flags then takePosition p v s else s)
  else if validFlag flags then
    if openLimitFlag flags then
      closeIfClosed p (changeGate p .open .adoption (setGate p (fun g => { g with position := some 0 }) s))
    else if closedLimitFlag flags then
      changeGate p .closed .adoption <| setGate p (fun g =>
        { g with
          position := some travel,
          closedBy := some (if s.psq.posture = .closed then .posture else .request) }) s
    else
      closeIfClosed p <| changeGate p .held .adoption <| setGate p (fun g => { g with heldLong := false }) <|
        takePosition p v s
  else motionStart p .adoption (setGate p (fun g => { g with target := some .home }) s)

/-- A report taken in HOMING (R89). -/
def homingReport (p : Fin 2) (v : Int) (flags : Half) (s : State) : State :=
  let travel := s.psq.config[p].travel
  if validFlag flags then
    if openLimitFlag flags then closeIfClosed p (reachOpen p .home s) else takePosition p v s
  else if (travel + travel / 8 : Nat) < v then enterGateFault p .homeNotFound s
  else s

/-- The progress timer restarts where it runs and the value reported, as it arrived, differs from the position before it
(R92, R96). -/
def keepProgress (p : Fin 2) (before : Option Int) (v : Int) (s : State) : State :=
  setGate p (fun g =>
    { g with progress := if g.progress.isSome && before != some v then some s.psq.config[p].window else g.progress }) s

/-- The closed limit reported in HELD with target travel: the gate is at travel, and CLOSED where the reading has been CLEAR for
the clear time (R94). -/
def heldAtLimit (p : Fin 2) (s : State) : State :=
  let there := setGate p (fun g => { g with position := some (s.psq.config[p].travel : Int) }) s
  if s.psq.portals[p].presence = .clear ∧ s.psq.portals[p].clear = none then reachClosed p there else there

/-- A report with position-valid set in a positioned state, after the position is taken (R92, R94, R96). -/
def positionedReport (p : Fin 2) (before : Option Int) (v : Int) (flags : Half) (s : State) : State :=
  match s.psq.portals[p].state with
  | .closing => if closedLimitFlag flags then reachClosed p s else keepProgress p before v s
  | .opening =>
    if openLimitFlag flags then reachOpen p .moveOpen s
    else if closedLimitFlag flags then s
    else keepProgress p before v s
  | .held => if closedLimitFlag flags && s.psq.portals[p].target = some .close then heldAtLimit p s else s
  | .unknown => s
  | .homing => s
  | .open => s
  | .warning => s
  | .closed => s
  | .fault => s

/-- A claim kept between a stop target and the drive's halt is released at a report with the moving flag clear (R88). -/
def releaseKept (p : Fin 2) (flags : Half) (s : State) : State :=
  if !s.psq.portals[p].state.moving && !s.psq.portals[p].powerWait && !movingFlag flags && claimGranted (.gate p) s then
    release (.gate p) s
  else s

/-- A report by the gate's state, its trip flag aside (R85). -/
def driveReportByState (p : Fin 2) (v : Int) (flags : Half) (s : State) : State :=
  match s.psq.portals[p].state with
  | .unknown => adoptGate p v flags s
  | .homing => homingReport p v flags s
  | .fault => if validFlag flags then takePosition p v s else s
  | _ =>
    if validFlag flags then positionedReport p s.psq.portals[p].position v flags (takePosition p v s)
    else losePosition p s

/-- A STATE from a gate drive (R85). -/
def driveReport (p : Fin 2) (v : Int) (flags : Half) (s : State) : State :=
  let kept := setGate p (fun g => { g with reportValue := some v, reportFlags := some flags }) s
  if tripFlag flags && s.psq.portals[p].state != .fault then enterGateFault p .driveTrip kept
  else releaseKept p flags (driveReportByState p v flags kept)

/-- A change of a drive's freshness (R85, R88, R97). -/
def driveFreshness (p : Fin 2) (f : Freshness) (s : State) : State :=
  let told := setGate p (fun g => { g with driveFresh := f }) s
  if f = .stale then
    if s.psq.portals[p].commanded then enterGateFault p .driveSilent told
    else if !s.psq.portals[p].state.moving && !s.psq.portals[p].powerWait && claimGranted (.gate p) s then
      release (.gate p) told
    else told
  else told

/-- What the SIU delivers for a gate drive: the freshness first, then the STATE (R127). -/
def driveDelivery (p : Fin 2) (d : Delivery) (s : State) : State :=
  let fresh := match d.fresh with
    | some f => driveFreshness p f s
    | none => s
  match d.value with
  | some v => driveReport p v d.flags fresh
  | none => fresh

/-! ## Presence (R84, R91-R93) -/

/-- The presence reading of a portal (R84). A FRESH node that has sent no value yet reads OCCUPIED. -/
def presenceReading (p : Fin 2) (s : State) : Presence :=
  if assigned (.presence p) s then
    if s.psq.portals[p].presenceFresh = .fresh ∧ s.psq.portals[p].presenceValue = some 0 then .clear else .occupied
  else .clear

/-- A presence arrival of OCCUPIED, by the gate's state (R91-R93). A CLOSING gate that lost its position and waits to home (R85) is
held like any other, its wait to home dropped, by the model's choice (log 51). -/
def sweepOccupied (p : Fin 2) (s : State) : State :=
  match s.psq.portals[p].state with
  | .warning =>
    if s.psq.portals[p].warned && s.psq.portals[p].powerWait then toHeld p .presence (dropWait p s) else s
  | .closing => toHeld p .presence (dropWait p (writeStop p s))
  | .held => if s.psq.portals[p].target = some .close then startHold p s else s
  | .unknown => s
  | .homing => s
  | .open => s
  | .closed => s
  | .opening => s
  | .fault => s

/-- A presence arrival of CLEAR: in HELD with target travel the hold-long timer stops and the clear timer starts (R93). -/
def sweepClear (p : Fin 2) (s : State) : State :=
  if s.psq.portals[p].state = .held ∧ s.psq.portals[p].target = some .close then
    setGate p (fun g => { g with holdLong := none, clear := some s.psq.config[p].clear }) s
  else s

/-- The reading is recomputed; a change is a presence arrival (R84). -/
def recomputePresence (p : Fin 2) (s : State) : State :=
  let r := presenceReading p s
  if s.psq.portals[p].presence = r then s
  else
    let told := setGate p (fun g => { g with presence := r }) s
    match r with
    | .occupied => sweepOccupied p told
    | .clear => sweepClear p told

/-- What the SIU delivers for a presence node (R84). -/
def presenceDelivery (p : Fin 2) (d : Delivery) (s : State) : State :=
  recomputePresence p <| setGate p (fun g =>
    { g with
      presenceFresh := d.fresh.getD g.presenceFresh,
      presenceValue := match d.value with
        | some v => some v
        | none => g.presenceValue }) s

/-! ## Timers -/

/-- WARNING_EXPIRY (R91). -/
def warningEnds (p : Fin 2) (s : State) : State :=
  if expired s.psq.portals[p].warning ∧ s.psq.portals[p].state = .warning then
    let served := setGate p (fun g => { g with warning := none, warned := true }) s
    if s.psq.portals[p].presence = .occupied then toHeld p .warningEnd served else motionStart p .warningEnd served
  else s

/-- CLEAR_TIMER_EXPIRY (R93, R94). -/
def clearEnds (p : Fin 2) (s : State) : State :=
  if expired s.psq.portals[p].clear ∧ s.psq.portals[p].state = .held ∧ s.psq.portals[p].target = some .close then
    let done := setGate p (fun g => { g with clear := none }) s
    if s.psq.portals[p].reportFlags.any closedLimitFlag then reachClosed p done else motionStart p .clear done
  else s

/-- HOLD_LONG_EXPIRY (R93). -/
def holdLongEnds (p : Fin 2) (s : State) : State :=
  if expired s.psq.portals[p].holdLong ∧ s.psq.portals[p].state = .held then
    let told := emit .gateHeldLong (portalNumber p) (orAbsent s.psq.portals[p].position) 0 0 <|
      setGate p (fun g => { g with holdLong := none, heldLong := true }) s
    endOpIf p .moveClose .abnormal told
  else s

/-- PROGRESS_TIMER_EXPIRY (R92, R96). -/
def progressEnds (p : Fin 2) (s : State) : State :=
  if expired s.psq.portals[p].progress ∧ s.psq.portals[p].state.moving then enterGateFault p .noProgress s else s

/-- HOMING_TIMER_EXPIRY (R89). -/
def homingEnds (p : Fin 2) (s : State) : State :=
  if expired s.psq.portals[p].homing ∧ s.psq.portals[p].state = .homing then enterGateFault p .homeNotFound s else s

/-! ## Requests on gates (R99-R102) -/

/-- An entry of a gate operation waits for a portal (PENDING_SENSE of R99). -/
def gateEntryWaits (p : Fin 2) (s : State) : Bool :=
  s.psq.completions.any fun e => e.op != .lampTest && e.target = portalNumber p

/-- The tests every gate request makes before its own (05, "Requests on Gates"). -/
def gateRequestTests (p : Fin 2) (s : State) : Option Status :=
  if gateEntryWaits p s then some .pendingSense else if s.psq.portals[p].op.isSome then some .busy else none

/-- The refusal of HOME GATE (R100), in the order of the tests. -/
def homeRefusal (p : Fin 2) (s : State) : Option Status :=
  let g := s.psq.portals[p]
  match gateRequestTests p s with
  | some st => some st
  | none =>
    if g.state = .warning ∨ g.state = .closing ∨ g.state = .opening ∨ g.state = .homing then some .busy
    else if g.driveFresh ≠ .fresh ∨ g.reportFlags.all tripFlag then some .notReady
    else if s.psq.posture = .closed ∧ (g.state = .open ∨ g.state = .held ∨ g.state = .closed) then some .posture
    else if listFull s then some .listFull
    else none

/-- HOME GATE, accepted (R100). -/
def homeGate (p : Fin 2) (s : State) : State :=
  motionStart p .request <| setGate p (fun g => { g.stopTimers with fault := none, target := some .home }) <|
    reserveOp p .home s

/-- A gate in UNKNOWN, HOMING or FAULT takes no MOVE GATE (R101). -/
def notMovable (g : GateState) : Bool := g = .unknown || g = .homing || g = .fault

/-- The refusal of MOVE GATE OPEN (R101). -/
def moveOpenRefusal (p : Fin 2) (s : State) : Option Status :=
  match gateRequestTests p s with
  | some st => some st
  | none =>
    if notMovable s.psq.portals[p].state then some .notReady
    else if s.psq.posture = .closed then some .posture
    else if listFull s then some .listFull
    else none

/-- The refusal of MOVE GATE CLOSE (R101). -/
def moveCloseRefusal (p : Fin 2) (s : State) : Option Status :=
  match gateRequestTests p s with
  | some st => some st
  | none =>
    if notMovable s.psq.portals[p].state then some .notReady
    else if listFull s then some .listFull
    else none

/-- MOVE GATE OPEN, accepted, by the gate's state (R101); a HELD gate that waits to home takes the open decision (log 27). A gate of
another state that lost its position and waits to home takes its state's row too, by the model's choice: in OPENING the request
joins, and stays in flight when the gate homes to OPEN (log 51). -/
def moveGateOpen (p : Fin 2) (s : State) : State :=
  let begun := reserveOp p .moveOpen s
  match s.psq.portals[p].state with
  | .open => endOp p .done begun
  | .warning => endOp p .done (openFromWarning p .request begun)
  | .closing => openFromClosing p .request begun
  | .held => openFromStill p .request begun
  | .closed => openFromStill p .request begun
  | .opening => begun
  | .unknown => s
  | .homing => s
  | .fault => s

/-- The closed-by of a MOVE GATE CLOSE (R101). -/
def requestClosedBy (s : State) : ClosedBy := if s.psq.posture = .closed then .posture else .request

/-- MOVE GATE CLOSE, accepted, by the gate's state (R101); a HELD gate that waits to home takes the close decision (log 27). A gate
of another state that lost its position and waits to home takes its state's row too, by the model's choice: in WARNING and
CLOSING the request joins, and stays in flight when the gate homes to OPEN (log 51). -/
def moveGateClose (p : Fin 2) (s : State) : State :=
  let begun := reserveOp p .moveClose s
  match s.psq.portals[p].state with
  | .open => warnGate p (requestClosedBy s) .request begun
  | .warning => begun
  | .closing => begun
  | .held => if s.psq.portals[p].target = some .close then begun else closeHeld p (requestClosedBy s) begun
  | .closed => endOp p .done begun
  | .opening => reverseOpening p (requestClosedBy s) .request begun
  | .unknown => s
  | .homing => s
  | .fault => s

/-! ## Portal table writes (R81) -/

/-- A write to the gate drive node or the travel makes the gate UNKNOWN (R81). -/
def gateUnknown (p : Fin 2) (s : State) : State :=
  changeGate p .unknown .request <| setGate p (fun g =>
    { g.stopTimers with
      position := none, target := none, fault := none, closedBy := none, warned := false, powerWait := false }) <|
    endOpWith p .equipment none s

/-- A write to the presence node: the reading follows the new node, which is NEVER until its first value (R81, R84). -/
def presenceReassigned (p : Fin 2) (s : State) : State :=
  recomputePresence p (setGate p (fun g => { g with presenceFresh := .never, presenceValue := none }) s)

end Sys2Proof.Machine
end

