-- ==== Sys2Proof/Machine/Lighting.lean ====
section
/-! DEFINITION. The Lighting and Signal Engine (06_lighting_and_signals.md): zone levels and their claims, supervisory zone
values, the day band, the signal aspects, lamp faults and the lamp test. -/

namespace Sys2Proof.Machine

/-- A zone record changed. -/
def setZone (z : Fin 8) (f : Zone → Zone) (s : State) : State := { s with lse.zones := upd s.lse.zones z f }

/-- The zone number (00_scope.md, "Numbering of devices"). -/
def zoneNumber (z : Fin 8) : Nat := z.val + 1

/-! ## Levels and claims (R107-R109) -/

/-- The scene level of a zone at the posture and day band held (R105, R107). -/
def sceneLevel (z : Fin 8) (s : State) : Nat :=
  match place 20 (s.lse.posture.code * 4 + s.lse.band.code) with
  | some r => s.lse.scene.levels[r][z]
  | none => 0

/-- A hundredth of a product, rounded up (R108). -/
def hundredthUp (n : Nat) : Nat := (n + 99) / 100

/-- The floor amount of a level (R108). -/
def floorAmount (c : ZoneConfig) (level : Nat) : Nat := hundredthUp (c.ratedPower * min level c.floor)

/-- The upper amount of a level above the floor (R108). -/
def upperAmount (c : ZoneConfig) (level : Nat) : Nat := hundredthUp (c.ratedPower * (level - c.floor))

/-- A claim is handed an amount: entered by a waiting ask, or given its new amount if that changes (R108). -/
def handClaim (o : Owner) (amount : Nat) (s : State) : State :=
  if (claimOf o s.lda.claims).any fun c => c.amount = amount then s else askWaiting o amount s

/-- The floor claim is handed or released for a level (R108). -/
def handFloor (z : Fin 8) (level : Nat) (s : State) : State :=
  if 0 < level then handClaim (.floor z) (floorAmount s.lse.config[z] level) s else release (.floor z) s

/-- The upper claim is handed or released for a level (R108). While the level exceeds the floor it is handed also at the amount 0
of a zone whose rated power is 0 (log 38). -/
def handUpper (z : Fin 8) (level : Nat) (s : State) : State :=
  if s.lse.config[z].floor < level then handClaim (.upper z) (upperAmount s.lse.config[z] level) s
  else release (.upper z) s

/-- The zone's claims are matched to a level: at a fall the upper first, else the floor first (R108). At an unchanged level,
where a test ends or a write changes the amounts, the floor goes first (log 35). -/
def matchClaims (z : Fin 8) (before level : Nat) (s : State) : State :=
  if level < before then handFloor z level (handUpper z level s) else handUpper z level (handFloor z level s)

/-- The granted part of a zone with a lamp node (R109). -/
def grantedPart (z : Fin 8) (level : Nat) (s : State) : GrantedPart :=
  if level = 0 then .full
  else if !claimGranted (.floor z) s then .none
  else if s.lse.config[z].floor < level && !claimGranted (.upper z) s then .floor
  else .full

/-- The output level of a part (R109). -/
def outputLevel (part : GrantedPart) (level floor : Nat) : Nat :=
  match part with
  | .full => level
  | .floor => min level floor
  | .none => 0

/-- The part and the output level are computed from the claims held (R109). -/
def computeOutput (z : Fin 8) (s : State) : State :=
  let part := grantedPart z s.lse.zones[z].desired s
  setZone z (fun r =>
    { r with part := part, output := outputLevel part r.desired s.lse.config[z].floor }) s

/-- The output is kept in the zone's slot, with source SHED at a withdrawal (R109). -/
def keepOutput (z : Fin 8) (src : SlotSource) (s : State) : State :=
  let v : Int := s.lse.zones[z].output
  match src with
  | .shed => if s.cfl.slots[zoneSlot z].target = some v then s else writeSlot (zoneSlot z) v .shed s
  | _ => engineKeep (zoneSlot z) v s

/-- A PART zone with no test takes its scene level, matches its claims and writes its output (R107). -/
def litZone (z : Fin 8) (s : State) : State :=
  let level := sceneLevel z s
  let desired := setZone z (fun r => { r with desired := level }) s
  if assigned (.lamp z) s then
    keepOutput z .engine (computeOutput z (matchClaims z s.lse.zones[z].desired level desired))
  else setZone z (fun r => { r with output := 0 }) desired

/-- A re-evaluation (R107). A test in flight keeps claims, output and slot. -/
def reevaluate (z : Fin 8) (s : State) : State :=
  if zoneInstalled z s && partHas (zoneSlot z) s then
    if s.lse.zones[z].test then setZone z (fun r => { r with desired := sceneLevel z s }) s else litZone z s
  else s

/-! ## Lamp tests (R115-R117) -/

/-- A test in flight is cleared: its timer stopped, its measurement dropped. -/
def clearTest (z : Fin 8) (s : State) : State :=
  setZone z (fun r => { r with test := false, testTimer := none, measured := none }) s

/-- A test ends: it is cleared, the zone re-evaluated, and the outcome handed to the PSQ (R116, R117). -/
def endTest (z : Fin 8) (o : OpOutcome) (detail : Option Int) (s : State) : State :=
  postEntry .lampTest (zoneNumber z) o detail (reevaluate z (clearTest z s))

/-- The measurement's outcome (R116). -/
def testOutcome (m : Option Int) : OpOutcome :=
  match m with
  | none => .equipment
  | some v => if 50 ≤ v then .done else .abnormal

/-- LAMP_TEST_TIMER_EXPIRY (R116). -/
def testTimerEnds (z : Fin 8) (s : State) : State :=
  if expired s.lse.zones[z].testTimer ∧ s.lse.zones[z].test then
    endTest z (testOutcome s.lse.zones[z].measured) s.lse.zones[z].measured s
  else s

/-- The refusal of LAMP TEST up to the reservation (R115). -/
def lampTestRefusal (z : Fin 8) (s : State) : Option Status :=
  if s.psq.completions.any fun e => e.op = .lampTest && e.target = zoneNumber z then some .pendingSense
  else if s.lse.zones[z].test then some .busy
  else if s.lse.posture.stormOrAbove then some .posture
  else if !partHas (zoneSlot z) s then some .authority
  else if !assigned (.lamp z) s || s.lse.zones[z].lampFresh ≠ .fresh || s.lse.config[z].ratedCurrent = 0 then
    some .notReady
  else if listFull s then some .listFull
  else none

/-- The two asks at once of a lamp test (R115): granted or not, and the state after them. -/
def askForTest (z : Fin 8) (s : State) : Bool × State :=
  let floor := askAtOnce (.floor z) (floorAmount s.lse.config[z] 100) s
  if floor.1 then
    if s.lse.config[z].floor < 100 then
      let upper := askAtOnce (.upper z) (upperAmount s.lse.config[z] 100) floor.2
      if upper.1 then (true, upper.2) else (false, handFloor z s.lse.zones[z].desired upper.2)
    else (true, floor.2)
  else (false, floor.2)

/-- LAMP TEST with no refusal before the asks (R115): none for ACCEPTED, or POWER. -/
def lampTest (z : Fin 8) (s : State) : Option Status × State :=
  let ask := askForTest z s
  if ask.1 then
    let begun := setZone z (fun r =>
      { r with test := true, output := 100, part := .full, testTimer := some 10, measured := none }) ask.2
    (none, engineWrite (zoneSlot z) 100 { begun with psq.inFlight := begun.psq.inFlight + 1 })
  else (some .power, ask.2)

/-! ## Grants and withdrawals (R109, R111, R117) -/

/-- The owner whose claim it is. -/
def zoneOwner (z : Fin 8) (upper : Bool) : Owner := if upper then .upper z else .floor z

/-- A claim that was WAITING at the change of authority is released (R110). -/
def releaseWaiting (o : Owner) (before s : State) : State := if claimGranted o before then s else release o s

/-- A withdrawal from a zone under SUPERVISOR authority: the zone is lowered with a SHED target, and its withdrawn claim and, at a
level of 0, which needs none, both claims are released, the upper first (R108, R111; log 25). -/
def lowerSupervised (z : Fin 8) (upper : Bool) (s : State) : State :=
  let level := if upper then min s.lse.zones[z].desired s.lse.config[z].floor else 0
  let freed := release (.upper z) s
  let matched := if level = 0 then release (.floor z) freed else freed
  writeSlot (zoneSlot z) level .shed (setZone z (fun r => { r with desired := level, output := level, part := .full }) matched)

/-- The granted part a withdrawal leaves (R109): without its floor a zone that needs one has NONE, and without its upper it falls
to the floor if it has that. A later walk that grants the claim again is reported after it. -/
def withdrawnPart (r : Zone) (upper : Bool) (floor : Nat) : GrantedPart :=
  if r.desired = 0 then .full
  else if !upper || r.part = .none then .none
  else if floor < r.desired then .floor
  else .full

/-- A PART zone falls at a withdrawal, with source SHED (R109). -/
def fallBack (z : Fin 8) (upper : Bool) (s : State) : State :=
  keepOutput z .shed <| setZone z (fun r =>
    let part := withdrawnPart r upper s.lse.config[z].floor
    { r with part := part, output := outputLevel part r.desired s.lse.config[z].floor }) s

/-- A withdrawal from a PART zone: the zone falls (R109). A test in flight ends SUPERSEDED: it is cleared, the zone falls, and is
then re-evaluated (R117). -/
def lowerEngine (z : Fin 8) (upper : Bool) (s : State) : State :=
  if s.lse.zones[z].test then
    postEntry .lampTest (zoneNumber z) .superseded none (reevaluate z (fallBack z upper (clearTest z s)))
  else fallBack z upper s

/-- The new amount of a claim that is held, or an ask at once where it is not: a zone under SUPERVISOR authority holds no WAITING
claim (R75, R111). -/
def handAtOnce (o : Owner) (amount : Nat) (s : State) : State :=
  if holdsClaim o s then handClaim o amount s else (askAtOnce o amount s).2

/-- A SUPERVISOR zone's claims are matched to its desired level after a write of its rated power or floor, and as it is given a
lamp node (R104, R108); a claim that is not GRANTED then lowers the zone as its withdrawal does (R111). -/
def rematchSupervised (z : Fin 8) (s : State) : State :=
  let c := s.lse.config[z]
  let level := s.lse.zones[z].desired
  let floor := if 0 < level then handAtOnce (.floor z) (floorAmount c level) s else release (.floor z) s
  let t := if c.floor < level then handAtOnce (.upper z) (upperAmount c level) floor else release (.upper z) floor
  if 0 < level ∧ claimGranted (.floor z) t = false then lowerSupervised z false t
  else if c.floor < level ∧ claimGranted (.upper z) t = false then lowerSupervised z true t
  else setZone z (fun r => { r with output := level, part := .full }) t

/-- A write of a zone's rated power or floor (R104): the zone's claims match the new amounts, under either authority. -/
def rematch (z : Fin 8) (s : State) : State :=
  if partHas (zoneSlot z) s then reevaluate z s
  else if assigned (.lamp z) s then rematchSupervised z s
  else s

/-- The LDA reports a grant of a zone's claim (R109). -/
def zoneGranted (z : Fin 8) (upper : Bool) (s : State) : State :=
  if claimGranted (zoneOwner z upper) s && partHas (zoneSlot z) s && assigned (.lamp z) s && !s.lse.zones[z].test then
    keepOutput z .engine (computeOutput z s)
  else s

/-- The LDA reports a withdrawal of a zone's claim (R109, R111), also where a later walk has granted the claim again. -/
def zoneWithdrawn (z : Fin 8) (upper : Bool) (s : State) : State :=
  let o := zoneOwner z upper
  if holdsClaim o s then
    if partHas (zoneSlot z) s then lowerEngine z upper s else lowerSupervised z upper s
  else s

/-! ## Authority (R110) -/

/-- A zone is handed to the supervisor (R110). -/
def giveZone (z : Fin 8) (s : State) : State :=
  let level := s.lse.zones[z].output
  let inTest := s.lse.zones[z].test
  let kept := setZone z (fun r => { r with desired := level, part := .full }) (clearTest z s)
  let freed := releaseWaiting (.floor z) s (releaseWaiting (.upper z) s kept)
  let upper := if holdsClaim (.upper z) freed then handUpper z level freed else freed
  let matched := if holdsClaim (.floor z) upper then handFloor z level upper else upper
  if inTest then postEntry .lampTest (zoneNumber z) .superseded none matched else matched

/-- The CFL tells a change of a zone's effective authority (R110). -/
def zoneAuthority (z : Fin 8) (s : State) : State := if partHas (zoneSlot z) s then reevaluate z s else giveZone z s

/-! ## Supervisory zone values (R112) -/

/-- The zone's claim is GRANTED at no less than an amount. -/
def claimCovers (o : Owner) (amount : Nat) (s : State) : Bool :=
  (claimOf o s.lda.claims).any fun c => c.granted && amount ≤ c.amount

/-- A claim is met as held, or asked at once (R112). -/
def meetClaim (o : Owner) (amount : Nat) (s : State) : Bool × State :=
  if claimCovers o amount s then (true, s) else askAtOnce o amount s

/-- The value a zone with a lamp node can carry, and the state after the asks (R112). -/
def carryZone (z : Fin 8) (v : Nat) (s : State) : Nat × State :=
  let c := s.lse.config[z]
  let out := s.lse.zones[z].output
  if v = 0 then (0, s)
  else
    let floor := meetClaim (.floor z) (floorAmount c v) s
    if !floor.1 then (min v out, floor.2)
    else if c.floor < v then
      let upper := meetClaim (.upper z) (upperAmount c v) floor.2
      if upper.1 then (v, upper.2) else (min v (max c.floor out), upper.2)
    else (v, floor.2)

/-- The check of R112: the answer, with the claims matched to it. -/
def zoneCheck (z : Fin 8) (v : Nat) (s : State) : Nat × State :=
  if assigned (.lamp z) s then
    let carried := carryZone z v s
    let matched := matchClaims z s.lse.zones[z].desired carried.1 carried.2
    (carried.1, setZone z (fun r => { r with desired := carried.1, output := carried.1, part := .full }) matched)
  else (v, setZone z (fun r => { r with desired := v }) s)

/-! ## Day band (R106) -/

/-- The threshold of a band (R106). -/
def bandThreshold (c : Scene) : DayBand → Nat
  | .night => 0
  | .dusk => c.t1
  | .overcast => c.t2
  | .sun => c.t3

/-- The bands from the highest down. -/
def bandsDown : List DayBand := [.sun, .overcast, .dusk, .night]

/-- Seven eighths of a threshold, truncated (R106). -/
def fallThreshold (c : Scene) (b : DayBand) : Nat := bandThreshold c b * 7 / 8

/-- The band a value gives (R106). -/
def bandAt (c : Scene) (present : DayBand) (v : Nat) : DayBand :=
  match bandsDown.find? fun b => present.code < b.code && bandThreshold c b ≤ v with
  | some b => b
  | none =>
    if v < fallThreshold c present then
      (bandsDown.find? fun b => b.code ≤ present.code && fallThreshold c b ≤ v).getD .night
    else present

/-- The re-evaluation of every installed zone, each an announcement of its own (R107); in ascending zone number, an order no rule
gives (log 39). -/
def postZones (s : State) : State := postAll ((installedZones s).map .zone) s

/-- A luminance value (R106). -/
def takeLuminance (v : Int) (s : State) : State :=
  let band := bandAt s.lse.scene s.lse.band v.toNat
  if band = s.lse.band then s
  else postZones (emit .dayBand 0 (max 0 v) band.code s.lse.band.code { s with lse.band := band })

/-- What the SIU delivers for the luminance node (R106). -/
def luminanceDelivery (d : Delivery) (s : State) : State :=
  let fresh := { s with lse.lumFresh := d.fresh.getD s.lse.lumFresh }
  match d.value with
  | some v => takeLuminance v fresh
  | none => fresh

/-! ## Signals (R113) -/

/-- The aspects of beacon and stop lamp (R113). -/
def aspects (g : GateState) (p : Posture) : Int × Int :=
  match g with
  | .open =>
    match p with
    | .dry => (0, 0)
    | .wet => (0, 0)
    | .storm => (1, 0)
    | .alert => (2, 0)
    | .closed => (2, 0)
  | .warning => (2, 2)
  | .closing => (2, 1)
  | .held => (2, 1)
  | .closed => (1, 1)
  | .opening => (1, 2)
  | .homing => (1, 2)
  | .unknown => (1, 2)
  | .fault => (2, 2)

/-- The aspects of a portal by what the LSE holds. -/
def portalAspects (p : Fin 2) (s : State) : Int × Int := aspects s.lse.gates[p] s.lse.posture

/-- Each signal whose aspect differs from its slot's target is written, beacon first (R113). -/
def keepAspects (p : Fin 2) (s : State) : State :=
  engineKeep (stopSlot p) (portalAspects p s).2 (engineKeep (beaconSlot p) (portalAspects p s).1 s)

/-- Every installed portal's aspects (R113). -/
def keepAllAspects (s : State) : State := (installedPortals s).foldl (fun t p => keepAspects p t) s

/-- Both aspects are written again, for a new signal node (R113). -/
def writeAspects (p : Fin 2) (s : State) : State :=
  engineWrite (stopSlot p) (portalAspects p s).2 (engineWrite (beaconSlot p) (portalAspects p s).1 s)

/-- The PSQ tells a gate's state to the LSE and to the CFL (R98, R113, R167). -/
def gateTold (p : Fin 2) (g : GateState) (s : State) : State :=
  keepAllAspects { s with lse.gates := s.lse.gates.set p g, cfl.gates := s.cfl.gates.set p g }

/-- A posture announcement reaches the LSE (R107, R113). -/
def lsePosture (p : Posture) (s : State) : State := postZones (keepAllAspects { s with lse.posture := p })

/-- A zone is re-evaluated; a test in flight at STORM or above ends SUPERSEDED (R107, R117). -/
def takeZone (z : Fin 8) (s : State) : State :=
  if s.lse.zones[z].test && s.lse.posture.stormOrAbove then endTest z .superseded none s else reevaluate z s

/-! ## Lamp current (R114) -/

/-- The emitted value of a zone's slot. -/
def zoneEmitted (z : Fin 8) (s : State) : Option Int := s.cfl.slots[zoneSlot z].emitted

/-- An emission of a zone slot; `changed` is set when it changed the emitted value (R114). -/
def zoneEmission (z : Fin 8) (changed : Bool) (s : State) : State :=
  if changed then setZone z (fun r => { r with steady := false, steadyTimer := some 5 }) s else s

/-- LAMP_FAULT (R114, R199). -/
def emitLampFault (z : Fin 8) (percent : Int) (flag : Bool) (s : State) : State :=
  emit .lampFault (zoneNumber z) percent 0 (bit flag) s

/-- The percent of the expected current (R114). -/
def currentPercent (current expected : Int) : Int := min 1000 (Int.tdiv (current * 10000) expected)

/-- A counted sample moves the zone's counts and its fault flag (R114). -/
def judgeSample (z : Fin 8) (low : Bool) (percent : Int) (s : State) : State :=
  let r := s.lse.zones[z]
  if r.fault then
    if low then setZone z (fun r => { r with goodCount := 0 }) s
    else if r.goodCount + 1 < 3 then setZone z (fun r => { r with goodCount := r.goodCount + 1 }) s
    else emitLampFault z percent false (setZone z (fun r => { r with fault := false, lowCount := 0, goodCount := 0 }) s)
  else if low then
    if r.lowCount + 1 < 3 then setZone z (fun r => { r with lowCount := r.lowCount + 1 }) s
    else emitLampFault z percent true (setZone z (fun r => { r with fault := true, lowCount := 0, goodCount := 0 }) s)
  else setZone z (fun r => { r with lowCount := 0 }) s

/-- The measurement of a test in flight, with the emitted value 100 (R116). -/
def measure (z : Fin 8) (current emitted : Int) (s : State) : State :=
  if s.lse.zones[z].test ∧ emitted = 100 then
    setZone z (fun r =>
      { r with measured := some (min 1000 (Int.tdiv (current * 100) s.lse.config[z].ratedCurrent)) }) s
  else s

/-- A lamp current sample (R114). -/
def lampSample (z : Fin 8) (current : Int) (s : State) : State :=
  let rated : Int := s.lse.config[z].ratedCurrent
  match zoneEmitted z s with
  | none => s
  | some e =>
    if 0 < rated ∧ 10 ≤ e ∧ s.lse.zones[z].steady then
      judgeSample z (current < Int.tdiv (rated * e) 200) (currentPercent current (rated * e)) (measure z current e s)
    else s

/-- A change of a lamp node's freshness; STALE ends a test in flight EQUIPMENT (R116). -/
def lampFreshness (z : Fin 8) (f : Freshness) (s : State) : State :=
  let told := setZone z (fun r => { r with lampFresh := f }) s
  if f = .stale ∧ s.lse.zones[z].test then endTest z .equipment none told else told

/-- What the SIU delivers for a lamp node (R114, R135). -/
def lampDelivery (z : Fin 8) (d : Delivery) (s : State) : State :=
  let fresh := match d.fresh with
    | some f => lampFreshness z f s
    | none => s
  match d.value with
  | some v => lampSample z v fresh
  | none => fresh

/-- STEADY_TIMER_EXPIRY (R114). -/
def steadyEnds (z : Fin 8) (s : State) : State :=
  if expired s.lse.zones[z].steadyTimer then setZone z (fun r => { r with steady := true, steadyTimer := none }) s else s

/-! ## Zone table writes (R104) -/

/-- A write to the lamp node or the channel, after it is stored (R104): the zone's claims match its desired level under either
authority (R108). A zone that has no node then keeps the granted part it had (log 25), and its claims are released, the upper
one first by the model's choice (log 52). -/
def zoneRewired (z : Fin 8) (s : State) : State :=
  let counted := setZone z (fun r => { r with lowCount := 0, goodCount := 0 }) s
  if assigned (.lamp z) counted then
    let lit := rematch z counted
    if partHas (zoneSlot z) lit then engineWrite (zoneSlot z) lit.lse.zones[z].output lit else lit
  else setZone z (fun r => { r with output := 0 }) (release (.floor z) (release (.upper z) counted))

end Sys2Proof.Machine
end

