-- ==== Sys2Proof/Machine/Pumps.lean ====
section
/-! DEFINITION. The Pump Dispatcher (03_pump_dispatch.md): demand, dispatch, the pump states, faults, adoption, the
supervisory run check and the changes of the roster. -/

namespace Sys2Proof.Machine

/-- A pump record changed. -/
def setPump (i : Fin 6) (f : Pump → Pump) (s : State) : State := { s with pdx.pumps := upd s.pdx.pumps i f }

/-! ## The flags of a starter (R193) -/

/-- aux bit 0: running. -/
def runningFlag (f : Half) : Bool := f.getLsbD 0

/-- aux bit 1: tripped. -/
def trippedFlag (f : Half) : Bool := f.getLsbD 1

/-- The last report showed the pump running. -/
def reportedRunning (p : Pump) : Bool := p.report.any runningFlag

/-! ## Demand (R43-R45) -/

/-- STARTING or RUNNING. -/
def Pump.up (p : Pump) : Bool := p.state = .starting || p.state = .running

/-- Engaged: in the roster, effective authority PART, STARTING or RUNNING (R43). -/
def pumpEngaged (i : Fin 6) (s : State) : Bool :=
  s.pdx.roster.contains i && partHas (pumpSlot i) s && s.pdx.pumps[i].up

/-- The number of engaged pumps. -/
def engagedCount (s : State) : Nat := ((List.finRange 6).filter fun i => pumpEngaged i s).length

/-- The number of available pumps (R45). -/
def availableCount (s : State) : Nat := ((List.finRange 6).filter fun i => pumpAvailable i s).length

/-- The number of installed pumps in STARTING or RUNNING (R24). -/
def upCount (s : State) : Nat := ((installedPumps s).filter fun i => s.pdx.pumps[i].up).length

/-- An installed pump is STARTING (R53). -/
def anyStarting (s : State) : Bool := (installedPumps s).any fun i => s.pdx.pumps[i].state = .starting

/-- The sum of the rated flows of the installed pumps in RUNNING (R43). -/
def runningFlow (s : State) : Nat :=
  (((installedPumps s).filter fun i => s.pdx.pumps[i].state = .running).map fun i => s.pdx.config[i].ratedFlow).sum

/-- The predictive step (R43). -/
def predictive (s : State) : Nat :=
  bit (s.pdx.posture.stormOrAbove && s.pdx.inflow.any fun q => (runningFlow s : Int) < q)

/-- Demand before the cap (R43, R44). -/
def rawDemand (s : State) : Nat :=
  if s.pdx.held then
    if s.pdx.floatFresh = .fresh ∧ s.pdx.highFloat = some 1 then availableCount s
    else if s.pdx.floatFresh = .fresh ∧ s.pdx.highFloat = some 0 ∧ s.pdx.lowFloat = some 0 then 0
    else s.pdx.demand
  else s.pdx.active.toList.count true + predictive s

/-- Demand is recomputed and capped (R45). -/
def recomputeDemand (s : State) : State := { s with pdx.demand := min (rawDemand s) (availableCount s) }

/-- The rungs at a level (R42). -/
def evaluateRungs (level : Option Int) (s : State) : State :=
  { s with pdx.active := Vector.ofFn fun n : Fin 6 =>
      if n.val < s.pdx.ladder.count then
        match level with
        | none => s.pdx.active[n]
        | some l =>
          if (s.pdx.ladder.rungs[n].start : Int) ≤ l then true
          else if l ≤ s.pdx.ladder.rungs[n].stop then false
          else s.pdx.active[n]
      else false }

/-! ## State changes (R46) -/

/-- PUMP_STATE (R46, R199). -/
def emitPumpState (i : Fin 6) (prev : PumpState) (cause : PumpCause) (s : State) : State :=
  emit .pumpState i.val s.pdx.pumps[i].state.code prev.code cause.code s

/-- Each change of state emits PUMP_STATE, is reported to the LDA and the PEV, and makes a dispatch (R46, R78, R24). -/
def pumpChanged (i : Fin 6) (prev : PumpState) (cause : PumpCause) (s : State) : State :=
  let told := recomputeCAvail (emitPumpState i prev cause s)
  postAll [.pumpCount (upCount told), .dispatch true] told

/-- A pump goes to STOPPING with a stop cause (R50). The caller writes the stop target. -/
def toStopping (i : Fin 6) (cause : StopCause) (s : State) : State :=
  pumpChanged i s.pdx.pumps[i].state cause.pumpCause <| setPump i (fun p =>
    { p with state := .stopping, stopCause := some cause, runSince := none, spinUp := none, minRun := none,
             stopConfirm := some s.pdx.config[i].stopConfirm }) s

/-- A start of a pump whose claim is granted (R47). -/
def startPump (i : Fin 6) (o : Origin) (s : State) : State :=
  let moved := setPump i (fun p =>
    { p with state := .starting, starts := p.starts ++ [s.uptime], origin := some o, powerWait := false,
             spinUp := some s.pdx.config[i].spinUp }) s
  match o with
  | .engine => pumpChanged i s.pdx.pumps[i].state .start (engineWrite (pumpSlot i) 1 moved)
  | .supervisor => pumpChanged i s.pdx.pumps[i].state .supervisor moved

/-- A pump becomes RUNNING (R48, R60). -/
def toRunning (i : Fin 6) (cause : PumpCause) (s : State) : State :=
  pumpChanged i s.pdx.pumps[i].state cause <| setPump i (fun p =>
    { p with state := .running, spinUp := none, runSince := some s.uptime, minRun := some s.pdx.config[i].minRun }) s

/-- The record of a pump at rest: last-stop uptime set and rest timer started (R49, R50, R63). -/
def atRest (i : Fin 6) (s : State) (p : Pump) : Pump :=
  { p with state := .idle, fault := none, stopCause := none, runSince := none, minRun := none, stopConfirm := none,
           lastStop := some s.uptime, rest := some s.pdx.config[i].minRest }

/-- An unbidden stop (R49). -/
def unbiddenStop (i : Fin 6) (s : State) : State :=
  pumpChanged i s.pdx.pumps[i].state .unbidden (release (.pump i) (setPump i (atRest i s) s))

/-- The lead pump that completed a normal stop moves to the roster tail (R56). -/
def rotateAfterStop (i : Fin 6) (cause : Option StopCause) (s : State) : State :=
  if cause = some .demand ∧ s.pdx.roster.head? = some i ∧ partHas (pumpSlot i) s then
    { s with pdx.roster := s.pdx.roster.tail ++ [i] }
  else s

/-- A confirmed stop (R50, R56). -/
def confirmedStop (i : Fin 6) (s : State) : State :=
  pumpChanged i s.pdx.pumps[i].state .feedback <| rotateAfterStop i s.pdx.pumps[i].stopCause <|
    release (.pump i) (setPump i (atRest i s) s)

/-! ## Faults (R51) -/

/-- The reasons at which a PART pump's stop target is written (R51). -/
def PumpFault.writesStop : PumpFault → Bool
  | .startFail => true
  | .trip => true
  | .silent => true
  | .stopFail => false

/-- A pump in the roster moves to the fault set; a locked pump stays in the lockout set (R39, R51). -/
def toFaultSet (i : Fin 6) (s : State) : State :=
  if s.pdx.roster.contains i then
    { s with pdx.roster := s.pdx.roster.filter (· ≠ i), pdx.faultSet := s.pdx.faultSet.set i true }
  else s

/-- A pump enters FAULTED (R51). -/
def enterFault (i : Fin 6) (reason : PumpFault) (s : State) : State :=
  let prev := s.pdx.pumps[i].state
  let moved := toFaultSet i <| setPump i (fun p =>
    { p with state := .faulted, fault := some reason, runSince := none, stopCause := none, powerWait := false,
             spinUp := none, stopConfirm := none, minRun := none, rest := none, limit := none }) s
  let written := if reason.writesStop then engineWrite (pumpSlot i) 0 moved else moved
  let claimed := if reportedRunning s.pdx.pumps[i] then written else release (.pump i) written
  pumpChanged i prev .fault (emit .pumpFault i.val reason.code 0 0 claimed)

/-- A report taken in FAULTED (R51): a running flag clear releases the claim; a running flag set without a claim asks for one
at once. -/
def reportInFault (i : Fin 6) (flags : Half) (s : State) : State :=
  if runningFlag flags then
    if holdsClaim (.pump i) s then s
    else
      let ask := askAtOnce (.pump i) s.pdx.config[i].ratedPower s
      if ask.1 then ask.2 else engineWrite (pumpSlot i) 0 ask.2
  else if holdsClaim (.pump i) s then post (.dispatch false) (release (.pump i) s)
  else s

/-! ## Adoption (R60) -/

/-- A running report for an IDLE pump adopts it (R60). An adoption that ends in a stop, LOCK or DENIED, leaves the origin as it was
(log 47). -/
def adopt (i : Fin 6) (s : State) : State :=
  let ask := askAtOnce (.pump i) s.pdx.config[i].ratedPower (setPump i (fun p => { p with powerWait := false }) s)
  if ask.1 then
    if s.pdx.lockoutSet[i] && partHas (pumpSlot i) s then toStopping i .lock (engineWrite (pumpSlot i) 0 ask.2)
    else toRunning i .adoption <| setPump i (fun p =>
      { p with origin := some (if partHas (pumpSlot i) s then .engine else .supervisor) }) ask.2
  else toStopping i .denied (writeSlot (pumpSlot i) 0 .shed (release (.pump i) ask.2))

/-! ## Reports and freshness of a starter (R46) -/

/-- A starter's STATE report, by the pump's state (R46). -/
def starterReport (i : Fin 6) (flags : Half) (s : State) : State :=
  let kept := setPump i (fun p => { p with report := some flags }) s
  match s.pdx.pumps[i].state with
  | .idle =>
    if trippedFlag flags then enterFault i .trip kept else if runningFlag flags then adopt i kept else kept
  | .starting =>
    if trippedFlag flags then enterFault i .trip kept
    else if runningFlag flags then toRunning i .feedback kept else kept
  | .running =>
    if trippedFlag flags then enterFault i .trip kept else if runningFlag flags then kept else unbiddenStop i kept
  | .stopping =>
    if trippedFlag flags then enterFault i .trip kept else if runningFlag flags then kept else confirmedStop i kept
  | .faulted => reportInFault i flags kept

/-- A change of a starter's freshness (R46, R51). -/
def starterFresh (i : Fin 6) (f : Freshness) (s : State) : State :=
  let told := setPump i (fun p => { p with fresh := f }) s
  if f = .stale ∧ s.pdx.pumps[i].up then enterFault i .silent told else told

/-- What the SIU delivers for a starter: the freshness first, then the report (R127, R135), and a dispatch at a change of
freshness (R45). -/
def starterDelivery (i : Fin 6) (d : Delivery) (s : State) : State :=
  let fresh := match d.fresh with
    | some f => starterFresh i f s
    | none => s
  let reported := if d.value.isSome then starterReport i d.flags fresh else fresh
  if d.fresh.isSome then post (.dispatch true) reported else reported

/-! ## Start attempts (R40) -/

/-- The age of an uptime. -/
def age (s : State) (t : Word) : Nat := (s.uptime - t).toNat

/-- The starts younger than 3600 s (R40). -/
def pruned (i : Fin 6) (s : State) : List Word := s.pdx.pumps[i].starts.filter fun t => age s t < 3600

/-- The pump is at its start limit (R40). -/
def atLimit (i : Fin 6) (s : State) : Bool := s.pdx.config[i].startLimit ≤ s.pdx.pumps[i].starts.length

/-- A start attempt, the examination of a pump as a candidate, prunes the starts list and clears the start-limited flag below
the limit (R40). -/
def attempt (i : Fin 6) (s : State) : State :=
  let cut := pruned i s
  setPump i (fun p =>
    { p with starts := cut, limited := p.limited && s.pdx.config[i].startLimit ≤ cut.length }) s

/-- The start selection skips a pump at its limit (R40). -/
def skipLimited (i : Fin 6) (s : State) : State :=
  if s.pdx.pumps[i].limited then s
  else
    let oldest := s.pdx.pumps[i].starts.headD s.uptime
    emit .startLimited i.val (oldest + 3600#32).toInt 0 0 <| setPump i (fun p =>
      { p with limited := true, limit := some (3600 - age s oldest) }) s

/-- Rest elapsed (R53). -/
def restElapsed (i : Fin 6) (s : State) : Bool :=
  s.pdx.pumps[i].lastStop.all fun t => s.pdx.config[i].minRest ≤ age s t

/-- The conditions of R53 but the start limit: PART, IDLE, starter FRESH, rest elapsed. -/
def startable (i : Fin 6) (s : State) : Bool :=
  partHas (pumpSlot i) s && s.pdx.pumps[i].state = .idle && s.pdx.pumps[i].fresh = .fresh && restElapsed i s

/-- The conditions under which a power-waiting pump may still start (R54), on a pruned starts list. -/
def mayStillStart (i : Fin 6) (s : State) : Bool :=
  s.pdx.roster.contains i && startable i s && !atLimit i s && engagedCount s < s.pdx.demand

/-- A power-wait ends without a start: the claim is released and the flag cleared (R54). -/
def endPowerWait (i : Fin 6) (s : State) : State :=
  release (.pump i) (setPump i (fun p => { p with powerWait := false }) s)

/-- The ask for a chosen pump's claim: granted, the pump starts; else it waits for power (R53). -/
def askForStart (i : Fin 6) (s : State) : State :=
  let asked := askWaiting (.pump i) s.pdx.config[i].ratedPower s
  if claimGranted (.pump i) asked then startPump i .engine asked
  else setPump i (fun p => { p with powerWait := true }) asked

/-! ## Dispatch (R45, R53-R55) -/

/-- The later run-since; of equal ones, the second, which stands nearer the roster tail (R55). -/
def laterRun (s : State) (best : Option (Fin 6)) (i : Fin 6) : Option (Fin 6) :=
  match best with
  | none => some i
  | some b =>
    if (s.pdx.pumps[b].runSince.getD 0).toNat ≤ (s.pdx.pumps[i].runSince.getD 0).toNat then some i else some b

/-- The engaged pump that entered RUNNING last (R55). -/
def lastRunning (s : State) : Option (Fin 6) :=
  (s.pdx.roster.filter fun i => pumpEngaged i s && s.pdx.pumps[i].state = .running).foldl (laterRun s) none

/-- The demand stops (R55), at most as many as there are pumps. Where the excess counts a STARTING pump beside a RUNNING one that
has served its minimum run, the RUNNING one is stopped at once, by the model's choice (log 50). -/
def demandStops : Nat → State → State
  | 0, s => s
  | n + 1, s =>
    if engagedCount s ≤ s.pdx.demand then s
    else match lastRunning s with
      | none => s
      | some i =>
        if s.pdx.pumps[i].minRun.isNone then
          demandStops n (toStopping i .demand (engineWrite (pumpSlot i) 0 s))
        else s

/-- The engine pump that waits for power (R54). -/
def waitingPump (s : State) : Option (Fin 6) := (List.finRange 6).find? fun i => s.pdx.pumps[i].powerWait

/-- The ask of a power-waiting pump whose granted claim was given back (R54): granted, the pump starts, or gives the claim back
again while another pump is STARTING; else the claim waits. -/
def askAgain (i : Fin 6) (s : State) : State :=
  let asked := askWaiting (.pump i) s.pdx.config[i].ratedPower s
  if claimGranted (.pump i) asked then
    if anyStarting asked then release (.pump i) asked else startPump i .engine asked
  else asked

/-- The re-examination of the power-waiting pump (R54). -/
def reexamine (s : State) : State :=
  match waitingPump s with
  | none => s
  | some i =>
    let t := attempt i s
    if mayStillStart i t then
      if holdsClaim (.pump i) t then t else askAgain i t
    else endPowerWait i t

/-- The roster walk of the start selection (R53). Each pump examined is a start attempt, so its list is pruned first (R40). -/
def selectFrom : List (Fin 6) → State → State
  | [], s => s
  | i :: rest, s =>
    let t := attempt i s
    if !startable i t then selectFrom rest t
    else if atLimit i t then selectFrom rest (skipLimited i t)
    else askForStart i t

/-- The start selection (R53). -/
def selectStart (s : State) : State :=
  if anyStarting s || (waitingPump s).isSome || s.pdx.demand ≤ engagedCount s then s
  else selectFrom s.pdx.roster s

/-- A dispatch (R45). -/
def dispatch (s : State) : State := selectStart (reexamine (demandStops 6 s))

/-- A dispatch, after recomputing demand where the event is of the first list of R45. -/
def dispatchOn (recompute : Bool) (s : State) : State := dispatch (if recompute then recomputeDemand s else s)

/-! ## What other blocks tell the PDX -/

/-- The SAU hands a level (R9, R42, R45). -/
def pdxLevel (l : Int) (s : State) : State := dispatchOn true (evaluateRungs (some l) s)

/-- An accounting completion (R43, R45). -/
def pdxCompletion (a : Accounting) (s : State) : State :=
  dispatchOn true { s with pdx.held := a.held, pdx.inflow := a.inflow }

/-- A posture announcement (R45). -/
def pdxPosture (p : Posture) (s : State) : State := dispatchOn true { s with pdx.posture := p }

/-- A float value or freshness (R44, R45). -/
def pdxFloat (d : Delivery) (s : State) : State :=
  let fresh := { s with pdx.floatFresh := d.fresh.getD s.pdx.floatFresh }
  dispatchOn true <| match d.value, d.channel with
    | some v, 0 => { fresh with pdx.lowFloat := some v }
    | some v, 1 => { fresh with pdx.highFloat := some v }
    | _, _ => fresh

/-- The LDA reports a grant of a pump's claim (R54). -/
def pumpGranted (i : Fin 6) (s : State) : State :=
  if s.pdx.pumps[i].powerWait && claimGranted (.pump i) s then
    if anyStarting s then release (.pump i) s
    else
      let t := attempt i s
      if mayStillStart i t then startPump i .engine t else endPowerWait i t
  else s

/-- The LDA reports a withdrawal of a pump's claim (R57): it stops the pump even where a later walk has granted the claim again;
a claim already released is no claim. -/
def pumpWithdrawn (i : Fin 6) (s : State) : State :=
  if s.pdx.pumps[i].up && holdsClaim (.pump i) s then
    toStopping i .shed (writeSlot (pumpSlot i) 0 .shed s)
  else s

/-- The CFL tells a change of a pump's effective authority (R58). -/
def pumpAuthority (i : Fin 6) (s : State) : State :=
  let taken :=
    if partHas (pumpSlot i) s then
      if s.pdx.lockoutSet[i] && s.pdx.pumps[i].up then toStopping i .lock (engineWrite (pumpSlot i) 0 s) else s
    else if s.pdx.pumps[i].powerWait then endPowerWait i s
    else s
  post (.dispatch true) (recomputeCAvail taken)

/-- In the roster with a FRESH starter, and IDLE, STARTING or RUNNING: the first test of R59. -/
def runnable (i : Fin 6) (s : State) : Bool :=
  s.pdx.roster.contains i && s.pdx.pumps[i].fresh = .fresh && (s.pdx.pumps[i].state = .idle || s.pdx.pumps[i].up)

/-- The tests of R59 on an IDLE pump, its starts list pruned, up to the ask for its claim. -/
def idleRefusal (i : Fin 6) (s : State) : Option Reason :=
  if anyStarting s then some .stagger
  else if !restElapsed i s then some .rest
  else if atLimit i s then some .startLimit
  else none

/-- The supervisory run check of an IDLE pump (R59). It is a start attempt, so the starts list is pruned first (R40). -/
def idleRunCheck (i : Fin 6) (s : State) : Option Reason × State :=
  let t := attempt i s
  match idleRefusal i t with
  | some reason => (some reason, t)
  | none =>
    let ask := askAtOnce (.pump i) t.pdx.config[i].ratedPower t
    if ask.1 then (none, startPump i .supervisor ask.2) else (some .power, ask.2)

/-- The supervisory run check (R59): `none` is PASS. A pump that is not IDLE is no candidate for a start, and nothing in the PDX
changes; a pump refused UNAVAILABLE is examined as a candidate if it is IDLE. -/
def runCheck (i : Fin 6) (s : State) : Option Reason × State :=
  if !runnable i s then (some .unavailable, if s.pdx.pumps[i].state = .idle then attempt i s else s)
  else if s.pdx.pumps[i].state = .idle then idleRunCheck i s
  else (none, s)

/-- A supervisory stop (R59). The CFL writes the target. -/
def supervisoryStop (i : Fin 6) (s : State) : State :=
  if s.pdx.pumps[i].up then toStopping i .supervisor s else s

/-! ## Requests on pumps (R61-R64) -/

/-- LOCK PUMP (R61), not refused. -/
def lockPump (i : Fin 6) (s : State) : State :=
  if s.pdx.lockoutSet[i] then s
  else
    let moved := { s with
      pdx.roster := s.pdx.roster.filter (· ≠ i), pdx.faultSet := s.pdx.faultSet.set i false,
      pdx.lockoutSet := s.pdx.lockoutSet.set i true }
    let stopped := if s.pdx.pumps[i].up then toStopping i .lock (engineWrite (pumpSlot i) 0 moved) else moved
    let freed := if s.pdx.pumps[i].powerWait then endPowerWait i stopped else stopped
    post (.dispatch true) (recomputeCAvail freed)

/-- UNLOCK PUMP (R62). -/
def unlockPump (i : Fin 6) (s : State) : State :=
  if s.pdx.lockoutSet[i] then
    let out := { s with pdx.lockoutSet := s.pdx.lockoutSet.set i false }
    let moved :=
      if s.pdx.pumps[i].state = .faulted then { out with pdx.faultSet := s.pdx.faultSet.set i true }
      else { out with pdx.roster := s.pdx.roster.filter (· ≠ i) ++ [i] }
    post (.dispatch true) (recomputeCAvail moved)
  else s

/-- CLEAR FAULT may be taken (R63). -/
def faultClearable (i : Fin 6) (s : State) : Bool :=
  let p := s.pdx.pumps[i]
  p.state = .faulted && p.fresh = .fresh && p.report.any fun f => !runningFlag f && !trippedFlag f

/-- CLEAR FAULT (R63), not refused. -/
def clearPumpFault (i : Fin 6) (s : State) : State :=
  let rested := release (.pump i) (setPump i (atRest i s) s)
  let moved :=
    if s.pdx.faultSet[i] then
      { rested with pdx.faultSet := s.pdx.faultSet.set i false, pdx.roster := s.pdx.roster.filter (· ≠ i) ++ [i] }
    else rested
  pumpChanged i .faulted .clear moved

/-- ROTATE (R64) of a pump in the roster. -/
def rotatePump (i : Fin 6) (s : State) : State :=
  post (.dispatch true) (recomputeCAvail { s with pdx.roster := i :: s.pdx.roster.filter (· ≠ i) })

/-! ## Timers -/

/-- SPIN_UP_EXPIRY (R48). -/
def spinUpEnds (i : Fin 6) (s : State) : State :=
  if expired s.pdx.pumps[i].spinUp ∧ s.pdx.pumps[i].state = .starting then enterFault i .startFail s else s

/-- STOP_CONFIRM_EXPIRY (R50). -/
def stopConfirmEnds (i : Fin 6) (s : State) : State :=
  if expired s.pdx.pumps[i].stopConfirm ∧ s.pdx.pumps[i].state = .stopping then enterFault i .stopFail s else s

/-- MINIMUM_RUN_EXPIRY (R49). -/
def minimumRunEnds (i : Fin 6) (s : State) : State :=
  if expired s.pdx.pumps[i].minRun then dispatch (setPump i (fun p => { p with minRun := none }) s) else s

/-- REST_EXPIRY (R45). -/
def restEnds (i : Fin 6) (s : State) : State :=
  if expired s.pdx.pumps[i].rest then dispatch (setPump i (fun p => { p with rest := none }) s) else s

/-- LIMIT_TIMER_EXPIRY (R40). -/
def limitEnds (i : Fin 6) (s : State) : State :=
  if expired s.pdx.pumps[i].limit then dispatch (setPump i (fun p => { p with limit := none }) s) else s

end Sys2Proof.Machine
end

