-- ==== Sys2Proof/Machine/Filter.lean ====
section
/-! DEFINITION. The Command Filter (09_command_filtering_and_authority.md): effective authority, the judging of supervisory
commands, interlock and standing rules, and supervision. -/

namespace Sys2Proof.Machine

/-! ## Effective authority (R153, R154) -/

/-- The configured authority of a slot; gates and signals have none (R153). -/
def configuredAuthority (k : Fin 20) (s : State) : Option Authority :=
  match outputOf k with
  | .pump i => some s.cfl.authority.pumps[i].configured
  | .zone z => some s.lse.config[z].authority
  | .gate _ => none
  | .beacon _ => none
  | .stopLamp _ => none

/-- The fallback action of a slot (R153). -/
def fallbackAction (k : Fin 20) (s : State) : Option FallbackAction :=
  match outputOf k with
  | .pump i => some s.cfl.authority.pumps[i].action
  | .zone z => some s.cfl.authority.zones[z].action
  | .gate _ => none
  | .beacon _ => none
  | .stopLamp _ => none

/-- The fallback value of a slot (R153). -/
def fallbackValue (k : Fin 20) (s : State) : Option Nat :=
  match outputOf k with
  | .pump i => some s.cfl.authority.pumps[i].value
  | .zone z => some s.cfl.authority.zones[z].value
  | .gate _ => none
  | .beacon _ => none
  | .stopLamp _ => none

/-- R154. -/
def effectiveAuthority (k : Fin 20) (s : State) : Effective :=
  let lost : Bool := s.cfl.supervision = .lost
  match configuredAuthority k s with
  | none => .part
  | some .part => .part
  | some .shared => if s.site.takeover.code ≤ s.cfl.posture.code || lost then .part else .supervisor
  | some .supervisor => if fallbackAction k s = some .release && lost then .part else .supervisor

/-- A pump slot or a zone slot. -/
def commandedSlot (k : Fin 20) : Bool :=
  match outputOf k with
  | .pump _ => true
  | .zone _ => true
  | .gate _ => false
  | .beacon _ => false
  | .stopLamp _ => false

/-- The installed pump and zone slots in slot order. -/
def commandedSlots (s : State) : List (Fin 20) :=
  (List.finRange 20).filter fun k => commandedSlot k && slotInstalled k s

/-- Every installed slot's effective authority is derived anew (R154); a slot that is not installed keeps the PART it has after
reset (log 36). -/
def deriveAuthorities (s : State) : State :=
  { s with cfl.slots := Vector.ofFn fun k : Fin 20 =>
      if slotInstalled k s then { s.cfl.slots[k] with effective := effectiveAuthority k s } else s.cfl.slots[k] }

/-- The recomputation of effective authority: each change of a pump or zone slot is told to its engine, in slot order
(R154). Every slot is derived before the first is told, so an engine told of one slot finds the new authority of the others
(log 36). -/
def recomputeAuthority (s : State) : State :=
  let changed := (commandedSlots s).filter fun k => s.cfl.slots[k].effective ≠ effectiveAuthority k s
  postAll (changed.map .authority) (deriveAuthorities s)

/-- An engine is told the effective authority of a slot (R58, R110). -/
def authorityTold (k : Fin 20) (s : State) : State :=
  match outputOf k with
  | .pump i => pumpAuthority i s
  | .zone z => zoneAuthority z s
  | .gate _ => s
  | .beacon _ => s
  | .stopLamp _ => s

/-! ## Nodes and channels of the slots (R151) -/

/-- The node and channel the owning table gives a slot (R151). -/
def slotNode (k : Fin 20) (s : State) : Nat × Nat :=
  match outputOf k with
  | .pump i => (s.pdx.config[i].starterNode, 0)
  | .gate p => (s.psq.config[p].driveNode, 0)
  | .beacon p => (s.psq.config[p].signalNode, 0)
  | .stopLamp p => (s.psq.config[p].signalNode, 1)
  | .zone z => (s.lse.config[z].lampNode, s.lse.config[z].channel)

/-- A slot with the node and channel recorded; at a change the emitted value becomes absent (R151). -/
def recordSlot (e : Slot) (node : Nat × Nat) : Slot :=
  if (e.node, e.channel) = node then e else { e with node := node.1, channel := node.2, emitted := none }

/-- The CFL records the nodes and channels of the installed slots (R151). -/
def recordNodes (s : State) : State :=
  { s with cfl.slots := Vector.ofFn fun k : Fin 20 =>
      if slotInstalled k s then recordSlot s.cfl.slots[k] (slotNode k s) else s.cfl.slots[k] }

/-! ## Interlock rules (R156, R157) -/

/-- A rule's match includes a slot (R156). -/
def RuleMatch.includes (m : RuleMatch) (k : Fin 20) : Bool :=
  match m, outputOf k with
  | .pumpSlot i, .pump j => i = j
  | .zoneSlot z, .zone w => z = w
  | .allPumps, .pump _ => true
  | .allZones, .zone _ => true
  | _, _ => false

/-- Both conditions of a rule hold on the posture copy and the tier copy (R156, R157). -/
def ruleHolds (r : Rule) (s : State) : Bool :=
  (r.posture.all fun p => p.code ≤ s.cfl.posture.code) && r.tier.all fun t => t.code ≤ s.cfl.tier.code

/-- The governing rule of a slot with its entry number: the first in use that matches and holds (R157). -/
def governingRule (k : Fin 20) (s : State) : Option (Nat × Rule) :=
  ((s.cfl.rules.entries.toList.take s.cfl.rules.count).zipIdx.find? fun e => e.1.slots.includes k && ruleHolds e.1 s).map
    fun e => (e.2 + 1, e.1)

/-- The value of a rule as it acts on a slot: on a pump, 1 when it is above 1 (R156). -/
def ruleBound (k : Fin 20) (r : Rule) : Int :=
  match outputOf k with
  | .pump _ => min r.value 1
  | _ => r.value

/-- The value after a rule (R157). -/
def ruleValue (k : Fin 20) (r : Rule) (v : Int) : Int :=
  match r.action with
  | .pass => v
  | .block => v
  | .clamp => min v (ruleBound k r)
  | .raise => max v (ruleBound k r)

/-! ## Events of the filter (R162) -/

/-- COMMAND_REFUSED, offered after the events of the downstream checks (R162, R199). -/
def refuse (k : Fin 20) (reason : Reason) (v : Int) (src : SlotSource) (entry : Nat) (s : State) : State :=
  post (.emit .commandRefused k.val (src.code * 65536 + v) reason.code entry) s

/-- COMMAND_CLAMPED, offered after the events of the downstream checks (R162, R199). -/
def clampedEvent (k : Fin 20) (reason : Reason) (before written : Int) (src : SlotSource) (entry : Nat) (s : State) :
    State :=
  post (.emit .commandClamped k.val (src.code * 65536 + before * 256 + written) reason.code entry) s

/-! ## Driving a slot (R160, R161, R163, R165) -/

/-- A run or a stop is taken for a pump slot (R160): the PDX is asked or told, the slot written, and a rule's change
reported. `before` is the value before the rule, `entry` the rule's entry number where it changed the value. -/
def drivePump (k : Fin 20) (i : Fin 6) (src : SlotSource) (before v : Int) (entry : Option Nat) (s : State) : State :=
  let report := fun t => match entry with
    | some n => clampedEvent k .rule before v src n t
    | none => t
  if v = 0 then report (writeSlot k 0 src (supervisoryStop i s))
  else
    let check := runCheck i s
    match check.1 with
    | none => report (writeSlot k 1 src check.2)
    | some reason => refuse k reason v src 0 check.2

/-- A value is taken for a zone slot (R161): the LSE answers, the answer is written, and a change by power or by a rule is
reported. `before` is the value before the rule. -/
def driveZone (k : Fin 20) (z : Fin 8) (src : SlotSource) (before v : Int) (entry : Option Nat) (s : State) : State :=
  let check := zoneCheck z v.toNat s
  let written := writeSlot k check.1 src check.2
  if (check.1 : Int) < v then clampedEvent k .power before check.1 src 0 written
  else match entry with
    | some n => clampedEvent k .rule before check.1 src n written
    | none => written

/-- A value that has passed its tests goes on to its pump or zone. -/
def driveSlot (k : Fin 20) (src : SlotSource) (before v : Int) (entry : Option Nat) (s : State) : State :=
  match outputOf k with
  | .pump i => drivePump k i src before v entry s
  | .zone z => driveZone k z src before v entry s
  | .gate _ => s
  | .beacon _ => s
  | .stopLamp _ => s

/-! ## A supervisory COMMAND (R158, R159) -/

/-- The installed, assigned slot a command names (R158). -/
def matchSlot (c : Cell) (s : State) : Option (Fin 20) :=
  (List.finRange 20).find? fun k =>
    slotInstalled k s && s.cfl.slots[k].node ≠ 0 && s.cfl.slots[k].node = c.dest.toNat &&
      s.cfl.slots[k].channel = c.selector.toNat

/-- A value in the range of its slot (R159). -/
def slotRange (k : Fin 20) (v : Int) : Bool :=
  match outputOf k with
  | .pump _ => v = 0 || v = 1
  | .zone _ => 0 ≤ v && v ≤ 100
  | .gate _ => true
  | .beacon _ => true
  | .stopLamp _ => true

/-- A supervisory command for a slot, in the order of R159. -/
def judge (k : Fin 20) (v : Int) (s : State) : State :=
  if !commandedSlot k then refuse k .sequenced v .supervisor 0 s
  else if partHas k s then refuse k .authority v .supervisor 0 s
  else if !slotRange k v then refuse k .range v .supervisor 0 s
  else match governingRule k s with
    | none => driveSlot k .supervisor v v none s
    | some (n, r) =>
      if r.action = .block then refuse k .rule v .supervisor n s
      else driveSlot k .supervisor v (ruleValue k r v) (if ruleValue k r v = v then none else some n) s

/-- A COMMAND handed to the CFL (R158). -/
def takeCommand (c : Cell) (s : State) : State :=
  match matchSlot c s with
  | none => offerPassThrough c s
  | some k => if c.source = 0 then judge k (cellValue c) s else refuse k .foreign (cellValue c) .supervisor 0 s

/-! ## Standing rules (R163) -/

/-- The re-application to one slot (R163). -/
def reapplySlot (k : Fin 20) (s : State) : State :=
  if slotInstalled k s && commandedSlot k && !partHas k s then
    match s.cfl.slots[k].target, governingRule k s with
    | some t, some (n, r) =>
      if r.standing && (r.action = .clamp || r.action = .raise) && ruleValue k r t ≠ t then
        driveSlot k .clamp t (ruleValue k r t) (some n) s
      else s
    | _, _ => s
  else s

/-- The re-application visits the slots in slot order (R163). -/
def postReapply (s : State) : State := postAll ((commandedSlots s).map .reapply) s

/-- A posture announcement reaches the CFL (R154, R163). -/
def cflPosture (p : Posture) (s : State) : State := postReapply (recomputeAuthority { s with cfl.posture := p })

/-- A tier announcement reaches the CFL (R163). -/
def cflTier (t : Tier) (s : State) : State := postReapply { s with cfl.tier := t }

/-! ## Supervision (R142, R164-R166) -/

/-- The notice of a supervisory cell (R142, R164, R166). -/
def notice (s : State) : State :=
  let running := { s with cfl.timer := some s.site.supervisionTimeout }
  match s.cfl.supervision with
  | .present => running
  | .lost =>
    let told := emit .supervisionRestored 0 0 0 (bit (!s.cfl.firstPresence)) { running with cfl.supervision := .present }
    let given := recomputeAuthority told
    if s.cfl.firstPresence then given else post .tableReports { given with cfl.firstPresence := true }

/-- The fallback of one slot at the loss (R165). -/
def fallbackSlot (k : Fin 20) (s : State) : State :=
  if slotInstalled k s && commandedSlot k && !partHas k s && fallbackAction k s = some .drive then
    match fallbackValue k s with
    | some v => driveSlot k .fallback v v none s
    | none => s
  else s

/-- SUPERVISION_TIMER_EXPIRY (R165): the event and the loss notice to the LIF are not ordered between them (R145). -/
def supervisionEnds (s : State) : State :=
  if s.cfl.supervision = .present ∧ expired s.cfl.timer then
    let lost := postUnordered [.emit .supervisionLost 0 0 0 0, .flush]
      { s with cfl.supervision := .lost, cfl.timer := none }
    postAll ((commandedSlots s).map .fallback) (recomputeAuthority lost)
  else s

/-! ## TABLE_CHECK_FAILED (R187) -/

/-- Every persisted table, in the order of R198. -/
def Table.all : List Table :=
  [.site, .stage, .thresholds, .nodes, .pumps, .ladder, .limits, .portals, .zones, .scene, .authority, .rules, .commissioning]

/-- One TABLE_CHECK_FAILED for each failed table, in table order (R187). -/
def reportFailedTables (s : State) : State :=
  (Table.all.filter fun t => s.rqa.failed[t.place]).foldl
    (fun u t => emit .tableCheckFailed 0 0 0 (t.place.val + 1) u) s

end Sys2Proof.Machine
end

