-- ==== Sys2Proof/Machine/Intake.lean ====
section
/-! DEFINITION. The Sample Intake Unit (07_the_node_table_and_sample_intake.md): taking a cell, scaling, watch codes,
freshness, unknown sources and delivery to the owning blocks. -/

namespace Sys2Proof.Machine

/-- The record of an address changed. -/
def updNode (address : Nat) (f : Node → Node) (s : State) : State :=
  { s with siu.nodes := s.siu.nodes.map fun n => if n.address = address then f n else n }

/-- The channel record of a node changed. -/
def Node.updChannel (n : Node) (c : Nat) (f : Channel → Channel) : Node :=
  { n with channels := n.channels.modify c f }

/-! ## Scaling and conversion (R128, R129) -/

/-- The engineering value of an ANALOG channel, and whether the raw value was clamped (R128). -/
def scale (c : Scaling) (raw : Int) : Int × Bool :=
  let inSpan := max c.rawLow (min c.rawHigh raw)
  if c.rawLow = c.rawHigh then (c.engLow, raw ≠ c.rawLow)
  else (c.engLow + Int.tdiv ((inSpan - c.rawLow) * (c.engHigh - c.engLow)) (c.rawHigh - c.rawLow), inSpan ≠ raw)

/-- The value by the kind of the channel (R125, R128, R129), and whether it was clamped. -/
def convert (k : ChannelKind) (sc : Option Scaling) (raw : Int) : Int × Bool :=
  match k with
  | .analog => scale (sc.getD .default) raw
  | .digital => (if raw = 0 then 0 else 1, false)
  | .counter => (raw % 65536, false)
  | .report => (raw, false)

/-! ## Watch codes (R130) -/

/-- A watch hit (R130). -/
def watchHit (w : WatchCode) (before : Option Int) (new : Int) : Bool :=
  match w with
  | .none => false
  | .rise => before = some 0 && new = 1
  | .fall => before = some 1 && new = 0
  | .change => before.any fun b => b ≠ new
  | .high => new = 1
  | .low => new = 0

/-- The would-hit condition of a DIGITAL channel (R131). -/
def wouldHit (w : WatchCode) (last : Option Int) : Bool :=
  match w with
  | .high => last = some 1
  | .low => last = some 0
  | .none => false
  | .rise => false
  | .fall => false
  | .change => false

/-! ## Taking a cell (R125) -/

/-- The cell is a STATE. -/
def isState (c : Cell) : Bool := c.kind = 2

/-- The last raw value a cell leaves: 80000000h is kept as 80000001h (R125). -/
def rawValue (c : Cell) : Int := if cellValue c = absent then absent + 1 else cellValue c

/-- A mismatch (R134). -/
def mismatch (n : Node) (c : Cell) : Bool :=
  n.channels.length ≤ c.selector.toNat ||
    (isState c != decide (n.role.channelKind c.selector.toNat = .report))

/-- What a cell converts to: a REPORT channel takes the last raw value, the other kinds the value as it arrived (R125, R128,
R129). -/
def engineering (k : ChannelKind) (sc : Option Scaling) (c : Cell) : Int × Bool :=
  convert k sc (if k = .report then rawValue c else cellValue c)

/-- A channel record after a cell is taken on it (R125, R128, R130). -/
def takenChannel (k : ChannelKind) (c : Cell) (ch : Channel) : Channel :=
  let v := engineering k ch.scaling c
  { ch with
    lastRaw := some (rawValue c), lastEng := some v.1,
    lastFlags := if k = .report then some c.aux else ch.lastFlags,
    outOfSpan := if v.2 then bump ch.outOfSpan else ch.outOfSpan,
    latch := ch.latch || (k = .digital && watchHit ch.watch ch.lastEng v.1) }

/-- WATCH (R130, R199). -/
def emitWatch (n : Node) (channel : Nat) (w : WatchCode) (v : Int) (s : State) : State :=
  emit .watch n.address v channel w.code s

/-- Steps 4 and 5 of R125: the value is kept and the watch code tested. -/
def takeValue (n : Node) (c : Cell) (s : State) : State :=
  let sel := c.selector.toNat
  let k := n.role.channelKind sel
  let kept := updNode n.address (fun r => r.updChannel sel (takenChannel k c)) s
  match n.channels[sel]? with
  | none => kept
  | some ch =>
    let v := (engineering k ch.scaling c).1
    if k = .digital ∧ watchHit ch.watch ch.lastEng v then emitWatch n sel ch.watch v kept else kept

/-! ## Delivery (R124, R127, R135) -/

/-- The selectors an assignment takes values of (R135). -/
def servesChannel (a : Assignment) (sel : Nat) (s : State) : Bool :=
  match a with
  | .float => sel < 2
  | .supply => sel < 3
  | .signal _ => false
  | _ => a.channel s = some sel

/-- The announcements of one delivery: a float node's reaches the PEV and the PDX, a signal node's no block (R135). -/
def deliveryTasks (a : Assignment) (d : Delivery) : List Task :=
  match a with
  | .signal _ => []
  | .float => [.deliver .float d, .deliverFloatPdx d]
  | _ => [.deliver a d]

/-- One delivery to the owner of an assignment, with the report mark's freshness (R124, R127). -/
def deliverTo (a : Assignment) (told : Option Freshness) (d : Delivery) (s : State) : State :=
  let mark := s.siu.marks[a.mark]
  let fresh := if mark then told else some (told.getD .fresh)
  if fresh.isSome || d.value.isSome then
    postUnordered (deliveryTasks a { d with fresh := fresh })
      { s with siu.marks := s.siu.marks.set a.mark true }
  else s

/-- The delivery of a cell's value to an assignment: its value where the cell fits and the channel serves it. -/
def cellDelivery (n : Node) (c : Cell) (fits : Bool) (a : Assignment) (s : State) : Delivery :=
  let sel := c.selector.toNat
  let value := if fits && servesChannel a sel s then
      (n.channels[sel]?).map fun ch => (engineering (n.role.channelKind sel) ch.scaling c).1
    else none
  { fresh := none, channel := sel, value := value, flags := c.aux }

/-- Step 6 of R125, for every assignment that names the node. -/
def deliverCell (n : Node) (c : Cell) (fits : Bool) (changed : Bool) (s : State) : State :=
  (assignmentsOf n.address s).foldl
    (fun t a => deliverTo a (if changed then some .fresh else none) (cellDelivery n c fits a t) t) s

/-- NODE_FRESH or NODE_STALE (R127, R199). -/
def emitFreshness (e : Event) (n : Node) (s : State) : State := emit e n.address 0 n.role.code n.freshness.code s

/-- Step 2 of R125: the stale timer restarts, and a STALE or NEVER node becomes FRESH. -/
def refresh (n : Node) (s : State) : State :=
  let running := updNode n.address (fun r => { r with freshness := .fresh, staleTimer := some r.staleTime }) s
  if n.freshness = .fresh then running else emitFreshness .nodeFresh n running

/-- A cell from an address with no record (R132). -/
def unknownSource (c : Cell) (s : State) : State :=
  let a := c.source.toNat
  if 1 ≤ a ∧ a ≤ 59 then
    if s.siu.unknown.contains a then s
    else if s.siu.unknown.length < 8 then
      emit .nodeUnknown a 0 0 c.kind.toNat { s with siu.unknown := s.siu.unknown ++ [a] }
    else { s with siu.unknownSource := bump s.siu.unknownSource }
  else { s with siu.unknownSource := bump s.siu.unknownSource }

/-- A SAMPLE or STATE is taken, in the steps of R125. -/
def siuTake (c : Cell) (s : State) : State :=
  match findNode c.source.toNat s with
  | none => unknownSource c s
  | some n =>
    let changed : Bool := n.freshness ≠ .fresh
    let fresh := refresh n s
    if mismatch n c then
      deliverCell n c false changed { fresh with siu.roleMismatch := bump fresh.siu.roleMismatch }
    else deliverCell n c true changed (takeValue n c fresh)

/-! ## Staleness (R126, R127) -/

/-- The change to STALE told to the owner of an assignment; the mark is set (R124). -/
def tellStale (a : Assignment) (s : State) : State :=
  postUnordered (deliveryTasks a { fresh := some .stale, channel := 0, value := none, flags := 0 })
    { s with siu.marks := s.siu.marks.set a.mark true }

/-- STALE_TIMER_EXPIRY (R126). -/
def staleEnds (address : Nat) (s : State) : State :=
  match findNode address s with
  | none => s
  | some n =>
    if expired n.staleTimer then
      let stale := updNode address (fun r => { r with freshness := .stale, staleTimer := none }) s
      (assignmentsOf address s).foldl (fun t a => tellStale a t) (emitFreshness .nodeStale n stale)
    else s

/-- A changed assignment's report mark is cleared (R124). -/
def clearMark (a : Assignment) (s : State) : State := { s with siu.marks := s.siu.marks.set a.mark false }

end Sys2Proof.Machine
end

