-- ==== Sys2Proof/Machine/FieldLoop.lean ====
section
/-! DEFINITION. The Loop Interface (08_the_field_loop.md): the tests and the routing of an arrival, the two transmitters, the
port B arbiter and the flush on loss. -/

namespace Sys2Proof.Machine

/-! ## Arrivals (R139-R142) -/

/-- The check byte matches (R139). -/
def checkHolds (c : Cell) : Bool := crc c = c.check

/-- A supervisory cell: a REQUEST or COMMAND with source 0 (R142). -/
def supervisoryCell (c : Cell) : Bool := (c.kind = 3 || c.kind = 4) && c.source = 0

/-- The notice of a supervisory cell, whatever its routing (R142). -/
def noticeOf (c : Cell) (s : State) : State := if supervisoryCell c then notice s else s

/-- A port A cell that passed the tests, by the first row of R141 that applies. -/
def routeA (c : Cell) (s : State) : State :=
  let own : Bool := c.dest.toNat = ownAddress s
  if c.kind = 7 then s
  else if own && c.kind = 4 then
    if c.source = 0 then post (.request c) s else { s with lif.foreign := bump s.lif.foreign }
  else if own then { s with lif.misdirected := bump s.lif.misdirected }
  else if c.kind = 4 then offerPassThrough c s
  else if c.kind = 3 then post (.command c) s
  else { s with lif.misdirected := bump s.lif.misdirected }

/-- A cell arrives on port A (R139, R141, R142). -/
def arriveA (c : Cell) (s : State) : State :=
  if !checkHolds c then { s with lif.checkErrorsA := bump s.lif.checkErrorsA }
  else if cellMalformed c then { s with lif.malformedA := bump s.lif.malformedA }
  else routeA c (noticeOf c s)

/-- A port B cell that passed the tests, by its kind (R140). -/
def routeB (c : Cell) (s : State) : State :=
  if c.kind = 7 then s
  else if c.kind = 1 || c.kind = 2 then post (.forward c) (siuTake c s)
  else offer .forwarded c s

/-- A cell arrives on port B (R139, R140). -/
def arriveB (c : Cell) (s : State) : State :=
  if !checkHolds c then { s with lif.checkErrorsB := bump s.lif.checkErrorsB }
  else if cellMalformed c then { s with lif.malformedB := bump s.lif.malformedB }
  else routeB c s

/-! ## Port A (R143, R145) -/

/-- The free transmitter of port A takes the head of the queue, or sends FILL (R138, R143). -/
def nextA (s : State) : State :=
  match s.lif.queue with
  | [] => { s with lif.headSending := false, lif.txA := fillCell s }
  | e :: _ => { s with lif.headSending := true, lif.txA := e.cell }

/-- The head of the queue is a reply under transmission. -/
def replyUnderWay (s : State) : Bool := s.lif.headSending && s.lif.queue.head?.any fun e => e.kind = .reply

/-- PORT_A_TRANSMIT_COMPLETE (R143): the head leaves, and a reply's completion frees the reply slot (R169). -/
def portASent (s : State) : State :=
  let gone := if s.lif.headSending then { s with lif.queue := s.lif.queue.tail } else s
  nextA (if replyUnderWay s then { gone with rqa.replySlot := false } else gone)

/-- The forwarded cells the flush on loss removes are not kept: all but one under transmission (R145). -/
def flushed (sending : Bool) (q : List QueueEntry) : List QueueEntry :=
  match sending, q with
  | true, e :: rest => e :: rest.filter fun x => x.kind ≠ .forwarded
  | _, q => q.filter fun x => x.kind ≠ .forwarded

/-- A counter rises by `n` and stops at 65535. -/
def bumpBy (n c : Nat) : Nat := min 65535 (c + n)

/-- The flush on loss (R145). -/
def flushOnLoss (s : State) : State :=
  if s.site.flushOnLoss then
    let kept := flushed s.lif.headSending s.lif.queue
    { s with lif.queue := kept,
             lif.forwardDrops := bumpBy (s.lif.queue.length - kept.length) s.lif.forwardDrops }
  else s

/-! ## Port B (R147, R148) -/

/-- An entry of the image the arbiter may choose (R147). -/
def slotReady (cls : SlotClass) (k : Fin 20) (s : State) : Bool :=
  s.cfl.slots[k].pending && s.cfl.slots[k].node ≠ 0 && s.cfl.slots[k].cls = some cls && s.cfl.slots[k].target.isSome

/-- The pending entry of a class with the lowest slot index (R147). -/
def firstReady (cls : SlotClass) (s : State) : Option (Fin 20) := (List.finRange 20).find? fun k => slotReady cls k s

/-- The COMMAND of an entry (R148). -/
def commandCell (k : Fin 20) (s : State) : Cell :=
  formCell s 3 s.cfl.slots[k].node s.cfl.slots[k].channel (s.cfl.slots[k].target.getD 0) 0 0 0

/-- The CFL tells the LSE of a zone slot's emission (R114, R148). -/
def tellEmission (k : Fin 20) (changed : Bool) (s : State) : State :=
  match outputOf k with
  | .zone z => zoneEmission z changed s
  | .pump _ => s
  | .gate _ => s
  | .beacon _ => s
  | .stopLamp _ => s

/-- An image entry is emitted (R148). -/
def emitSlot (k : Fin 20) (s : State) : State :=
  let e := s.cfl.slots[k]
  tellEmission k (e.emitted ≠ e.target) { s with
    lif.txB := commandCell k s, cfl.slots := upd s.cfl.slots k fun e => { e with emitted := e.target, pending := false } }

/-- The arbiter's choice for the free transmitter of port B (R147). -/
def portBSent (s : State) : State :=
  match firstReady .safety s with
  | some k => emitSlot k s
  | none =>
    match s.lif.fifo with
    | c :: rest => { s with lif.fifo := rest, lif.txB := c }
    | [] =>
      match firstReady .ordinary s with
      | some k => emitSlot k s
      | none => { s with lif.txB := fillCell s }

end Sys2Proof.Machine
end

