-- ==== Sys2Proof/Machine/Sump.lean ====
section
/-! DEFINITION. The Sump Accounting Unit (01_sump_accounting.md): the stage-storage table and its staged edit, the accounting
period, the steps of one accounting, and held estimates. -/

namespace Sys2Proof.Machine

/-! ## The stage-storage table (R1, R2) -/

/-- The breakpoints in use (R1). -/
def StageTable.used (t : StageTable) : List Breakpoint := t.points.toList.take t.count

/-- The order of two neighbours: levels strictly increase, volumes do not decrease (R1). -/
def orderedPair (p q : Breakpoint) : Bool := p.level < q.level && p.volume ≤ q.volume

/-- Every neighbour pair is in order. -/
def orderedPoints : List Breakpoint → Bool
  | [] => true
  | [_] => true
  | p :: q :: rest => orderedPair p q && orderedPoints (q :: rest)

/-- The place of the first breakpoint out of order, counted from the place of the list's first (R5). -/
def firstDisorder (place : Nat) : List Breakpoint → Nat
  | [] => 0
  | [_] => 0
  | p :: q :: rest => if orderedPair p q then firstDisorder (place + 1) (q :: rest) else place + 1

/-- The count lies in 2-16 (R1). -/
def StageTable.countOk (t : StageTable) : Bool := 2 ≤ t.count && t.count ≤ 16

/-- The table is valid (R1). -/
def StageTable.valid (t : StageTable) : Bool := t.countOk && orderedPoints t.used

/-- The lookup above the first breakpoint (R2): the volume, and whether the level is over the table. -/
def lookupFrom (level : Int) : List Breakpoint → Int × Bool
  | [] => (0, false)
  | [p] => (p.volume, true)
  | p :: q :: rest =>
    if level < q.level then
      (p.volume + Int.tdiv (((q.volume : Int) - p.volume) * (level - p.level)) ((q.level : Int) - p.level), false)
    else lookupFrom level (q :: rest)

/-- The volume lookup (R2). -/
def lookup (t : StageTable) (level : Int) : Int × Bool :=
  match t.used with
  | [] => (0, false)
  | p :: rest => if level ≤ p.level then (p.volume, false) else lookupFrom level (p :: rest)

/-- V_road (R1). -/
def roadVolume (t : StageTable) : Option Int := if t.valid then some (lookup t t.spill).1 else none

/-! ## Editing (R3, R5-R7) -/

/-- An edit is open (R3). -/
def editOpen (s : State) : Bool := s.sau.staging.isSome

/-- OPEN EDIT, not refused (R3). -/
def openEdit (s : State) : State := { s with sau.staging := some s.sau.table }

/-- ABANDON EDIT, not refused (R6). -/
def abandonEdit (s : State) : State := { s with sau.staging := none }

/-- The replacement of R5. -/
def replaceTable (t : StageTable) (s : State) : State :=
  writeThrough .stage { s with
    sau.table := t, sau.staging := none, sau.vRoad := roadVolume t, sau.baseline := none, sau.first := true }

/-- The detail of CLOSE EDIT's TABLE reply (R5). -/
def closeEditDetail (t : StageTable) : Nat := if t.countOk then firstDisorder 0 t.used else 0

/-- A posture announcement reaches the SAU (R7, R8). -/
def sauPosture (p : Posture) (s : State) : State :=
  let held := { s with sau.posture := p }
  if p.stormOrAbove && editOpen s then emit .editAbandoned 0 p.code 0 0 { held with sau.staging := none } else held

/-! ## Deliveries (R9) -/

/-- A level node's freshness and value (R9); each value is handed on to the PDX. -/
def levelDelivery (d : Delivery) (s : State) : State :=
  let fresh := { s with sau.levelFresh := d.fresh.getD s.sau.levelFresh }
  match d.value with
  | some v => post (.level v) { fresh with sau.level := some v }
  | none => fresh

/-- A flowmeter node's freshness and count (R9). -/
def flowDelivery (d : Delivery) (s : State) : State :=
  let fresh := { s with sau.flowFresh := d.fresh.getD s.sau.flowFresh }
  match d.value with
  | some v => { fresh with sau.count := some v }
  | none => fresh

/-- The level node assignment changed (R9). -/
def levelReassigned (s : State) : State := { s with sau.level := none, sau.levelFresh := .never }

/-- The flowmeter node assignment changed (R9). -/
def flowReassigned (s : State) : State := { s with sau.count := none, sau.baseline := none, sau.flowFresh := .never }

/-! ## The accounting period (R8) -/

/-- P_eff of a period that starts now (R8). -/
def effectivePeriod (s : State) : Nat :=
  if s.sau.posture = .dry then s.site.period * s.site.dryMultiplier else s.site.period

/-- A period starts (R8). -/
def startPeriod (s : State) : State :=
  { s with sau.periodLength := effectivePeriod s, sau.periodTimer := some (effectivePeriod s) }

/-! ## The steps of one accounting (R11-R18) -/

/-- R_sum: the rated flows of all installed pumps (R13). -/
def ratedSum (s : State) : Nat := ((installedPumps s).map fun i => s.pdx.config[i].ratedFlow).sum

/-- The result of the outflow step: O, the new baseline, and the implausible difference if there is one. -/
structure OutflowStep where
  outflow : Int
  baseline : Option Int
  implausible : Option Int
  deriving DecidableEq, Repr

/-- The first case of R12, with the plausibility test of R13. -/
def measuredOutflow (s : State) (now baseline previous : Int) : OutflowStep :=
  let counts := (now - baseline) % 65536
  let volume := counts * s.site.litresPerCount
  if 2 * (s.sau.periodLength : Int) * ratedSum s < volume then
    { outflow := previous, baseline := some now, implausible := some counts }
  else { outflow := Int.tdiv volume s.sau.periodLength, baseline := some now, implausible := none }

/-- The outflow step (R12). -/
def outflowStep (s : State) (previous : Int) : OutflowStep :=
  match s.sau.flowFresh with
  | .fresh =>
    match s.sau.count, s.sau.baseline with
    | some now, some b => measuredOutflow s now b previous
    | now, none => { outflow := 0, baseline := now, implausible := none }
    | none, some b => { outflow := 0, baseline := some b, implausible := none }
  | .stale => { outflow := 0, baseline := s.sau.baseline, implausible := none }
  | .never => { outflow := 0, baseline := none, implausible := none }

/-- The smoothing of R15. -/
def smooth (shift : Nat) (old new : Int) : Int := old + (new - old) / (2 ^ shift : Nat)

/-- Time-to-roadway (R16). -/
def timeToRoadway (headroom netRise : Int) : Int :=
  if headroom ≤ 0 then 0
  else if netRise ≤ 0 then 65535
  else max 1 (min 65534 (headroom / netRise))

/-- The estimates from volume, outflow, net rise and inflow (R16, R17). -/
def estimatesOf (s : State) (volume outflow netRise inflow : Int) : Estimates :=
  let headroom := s.sau.vRoad.getD 0 - volume
  { volume := volume, outflow := outflow, netRise := netRise, inflow := inflow, headroom := headroom,
    time := timeToRoadway headroom netRise, deficit := inflow - s.sau.cAvail }

/-- The new estimates of an ordinary period (R11-R17). -/
def ordinaryEstimates (s : State) (e : Estimates) (volume : Int) (o : OutflowStep) : Estimates :=
  let rise := Int.tdiv (volume - e.volume) s.sau.periodLength
  estimatesOf s volume o.outflow (smooth s.site.shift e.netRise rise) (smooth s.site.shift e.inflow (rise + o.outflow))

/-- The baseline of a first period (R18). -/
def firstBaseline (s : State) : Option Int := if s.sau.flowFresh = .fresh then s.sau.count else none

/-- FLOW_IMPLAUSIBLE (R13). -/
def emitImplausible (o : OutflowStep) (s : State) : State :=
  match o.implausible with
  | some counts => emit .flowImplausible 0 counts 0 0 s
  | none => s

/-- ESTIMATE_RESUMED at the first computed expiry after a held one (R21). -/
def resume (t : Int) (s : State) : State :=
  if s.sau.held then emit .estimateResumed 0 t 0 0 { s with sau.held := false } else s

/-- A first period (R18) at a level. -/
def firstPeriod (level : Int) (s : State) : State :=
  let look := lookup s.sau.table level
  let e := estimatesOf s look.1 0 0 0
  resume e.time { s with
    sau.est := some e, sau.overTable := look.2, sau.baseline := firstBaseline s, sau.first := false,
    sau.usedLevel := some level }

/-- An ordinary period (R11-R17) at a level, from the estimates before it. Where it raises both events, FLOW_IMPLAUSIBLE is
offered before ESTIMATE_RESUMED (log 26). -/
def ordinaryPeriod (level : Int) (e : Estimates) (s : State) : State :=
  let look := lookup s.sau.table level
  let o := outflowStep s e.outflow
  let new := ordinaryEstimates s e look.1 o
  resume new.time <| emitImplausible o { s with
    sau.est := some new, sau.overTable := look.2, sau.baseline := o.baseline, sau.usedLevel := some level }

/-- A computed expiry (R10): a first period while the mark is set, or while there are no estimates to go on from. -/
def computedPeriod (level : Int) (s : State) : State :=
  match s.sau.first, s.sau.est with
  | false, some e => ordinaryPeriod level e s
  | _, _ => firstPeriod level s

/-! ## Held expiries (R19, R20) -/

/-- The cause found at an expiry, in the order of R19; none where the expiry computes (R10). -/
def heldCause (s : State) : Option HeldCause :=
  if !s.sau.table.valid then some .tableInvalid
  else if !assigned .level s then some .unassigned
  else if s.sau.levelFresh = .never then some .never
  else if s.sau.levelFresh = .stale then some .stale
  else if s.sau.level.isNone then some .levelAbsent
  else none

/-- The baseline at a held expiry (R20). -/
def heldBaseline (s : State) : Option Int :=
  if s.sau.flowFresh = .fresh ∧ s.sau.count.isSome then s.sau.count else s.sau.baseline

/-- A held expiry (R19, R20). -/
def heldPeriod (c : HeldCause) (s : State) : State :=
  let kept := { s with sau.held := true, sau.heldSeen := true, sau.baseline := heldBaseline s }
  if s.sau.held && s.sau.heldSeen then kept else emit .estimateHeld 0 0 0 c.code kept

/-! ## The expiry (R10) -/

/-- What the SAU announces (R10). -/
def accountingOf (s : State) : Accounting :=
  { time := s.sau.est.map (·.time), inflow := s.sau.est.map (·.inflow), deficit := s.sau.est.map (·.deficit),
    held := s.sau.held, level := s.sau.usedLevel }

/-- The accounting of an expiry, in one of the three modes of R10. -/
def account (s : State) : State :=
  match heldCause s, s.sau.level with
  | none, some level => computedPeriod level s
  | some c, _ => heldPeriod c s
  | none, none => s

/-- The period's expiry (R10): the accounting, the announcement to the PEV and the PDX, and the next period. -/
def periodEnds (s : State) : State :=
  if expired s.sau.periodTimer then
    let done := account { s with sau.periodTimer := none }
    post .startPeriod (postUnordered [.completionPev (accountingOf done), .completionPdx (accountingOf done)] done)
  else s

end Sys2Proof.Machine
end

