-- ==== Sys2Proof/Machine/Flags.lean ====
section
/-! DEFINITION. The flags and packed values the part reports: the detail bytes and the STATUS pages of R195. -/

namespace Sys2Proof.Machine

/-- A byte from its bits, bit 7 first. -/
def byteOf (b7 b6 b5 b4 b3 b2 b1 b0 : Bool) : Nat :=
  128 * bit b7 + 64 * bit b6 + 32 * bit b5 + 16 * bit b4 + 8 * bit b3 + 4 * bit b2 + 2 * bit b1 + bit b0

/-- The sum of the weights of the places that hold: bit `n` for place `n`. -/
def maskOf {n : Nat} (f : Fin n → Bool) : Nat := ((List.finRange n).map fun i => bit (f i) * 2 ^ i.val).sum

/-- An installed pump is FAULTED. -/
def pumpFaulted (i : Fin 6) (s : State) : Bool := pumpInstalled i s && s.pdx.pumps[i].state = .faulted

/-- An installed gate is in FAULT. -/
def gateFaulted (p : Fin 2) (s : State) : Bool := portalInstalled p s && s.psq.portals[p].state = .fault

/-- An installed zone's lamp-fault flag is set. -/
def lampFaulted (z : Fin 8) (s : State) : Bool := zoneInstalled z s && s.lse.zones[z].fault

/-- The summary of every STATUS reply (R172, R195). -/
def summary (s : State) : Nat :=
  byteOf s.lif.eventsLost s.pev.forced s.sau.held (s.cfl.supervision = .lost) s.lda.low
    ((List.finRange 6).any fun i => pumpFaulted i s) ((List.finRange 2).any fun p => gateFaulted p s)
    ((List.finRange 8).any fun z => lampFaulted z s)

/-- Four bytes of a value, most significant first. -/
def fourBytes (a b c d : Nat) : Int := (((a % 256) * 256 + b % 256) * 256 + c % 256) * 256 + d % 256

/-- STATUS page 0 (R195). -/
def statusPage0 (s : State) : Int :=
  fourBytes s.pev.posture.code s.pev.candidate.code s.lda.tier.code s.lse.band.code

/-- STATUS page 1 (R195). -/
def statusPage1 (s : State) : Int :=
  packHalves (s.pev.descent.code * 16384 + s.pev.descent.left)
    (s.cfl.supervision.code * 16384 + s.cfl.timer.getD 0)

/-- STATUS page 2 (R195). -/
def statusPage2 (s : State) : Int :=
  fourBytes s.rqa.cause.code s.lif.queue.length s.lif.fifo.length s.siu.unknown.length

/-- STATUS page 3 (R195). -/
def statusPage3 (s : State) : Int :=
  let failed := maskOf fun t : Fin 13 => s.rqa.failed[t]
  fourBytes (maskOf (fun i => pumpFaulted i s) + 64 * maskOf fun p => gateFaulted p s)
    (maskOf fun z => lampFaulted z s) (failed / 256) failed

/-- The detail of READ ESTIMATES: bits 3 to 0 (R195). -/
def estimateFlags (s : State) : Nat :=
  byteOf false false false false s.sau.held s.sau.overTable s.sau.first (editOpen s)

/-- The detail of READ LOAD (R195). -/
def loadFlags (s : State) : Nat := 32 * s.lda.tier.code + 8 * s.lda.cls.code + bit s.lda.low

end Sys2Proof.Machine
end

