-- ==== Sys2Proof/Machine/Posture.lean ====
section
/-! DEFINITION. The Posture Evaluator (02_site_posture.md): the candidate, evaluation, descent, the CLOSED latch and the
announcement of a posture change. -/

namespace Sys2Proof.Machine

/-! ## The candidate (R25) -/

/-- A depth term: the node FRESH and the copy present (R25). -/
def depthTerm (n : Fin 2) (limit : Nat) (s : State) : Bool :=
  s.pev.depthFresh[n] = .fresh && s.pev.depth[n].any fun d => (limit : Int) ≤ d

/-- A float term reads wet: the node FRESH and the copy 1 (R25). -/
def floatTerm (copy : Option Int) (s : State) : Bool := s.pev.floatFresh = .fresh && copy = some 1

/-- The term of T, which a held copy takes away (R25). -/
def timeTerm (limit : Nat) (s : State) : Bool := !s.pev.held && s.pev.time.any fun t => t ≤ (limit : Int)

/-- The CLOSED condition (R25). -/
def closedHolds (forced : Bool) (s : State) : Bool :=
  timeTerm s.pev.thresholds.closeTime s || depthTerm 0 s.pev.thresholds.closeDepth s ||
    depthTerm 1 s.pev.thresholds.closeDepth s || forced

/-- The ALERT condition (R25). -/
def alertHolds (s : State) : Bool :=
  timeTerm s.pev.thresholds.alertTime s || depthTerm 0 s.pev.thresholds.alertDepth s ||
    depthTerm 1 s.pev.thresholds.alertDepth s

/-- The STORM condition (R25). -/
def stormHolds (s : State) : Bool :=
  (s.pev.level.any fun l => (s.pev.thresholds.stormLevel : Int) ≤ l) ||
    (!s.pev.held && s.pev.inflow.any fun q => (s.pev.thresholds.stormInflow : Int) ≤ q) ||
    (!s.pev.held && s.pev.deficit.any fun d => 0 < d) || floatTerm s.pev.highFloat s

/-- The WET condition (R25). -/
def wetHolds (s : State) : Bool :=
  (s.pev.level.any fun l => (s.pev.thresholds.wetLevel : Int) ≤ l) || 1 ≤ s.pev.pumpCount || floatTerm s.pev.lowFloat s

/-- The candidate with the forced flag as given (R25, R33). -/
def candidateWith (forced : Bool) (s : State) : Posture :=
  if closedHolds forced s then .closed
  else if alertHolds s then .alert
  else if stormHolds s then .storm
  else if wetHolds s then .wet
  else .dry

/-- The candidate (R25). -/
def candidateOf (s : State) : Posture := candidateWith s.pev.forced s

/-! ## Announcing (R34) -/

/-- The five announcements of a posture change (R34). -/
def announcements (new prev : Posture) (cause : PostureCause) : List Task :=
  [.posture .sau new prev cause, .posture .pdx new prev cause, .posture .psq new prev cause, .posture .lse new prev cause,
    .posture .cfl new prev cause]

/-- The posture changes: POSTURE, then the announcements in an order the spec leaves open (R34). -/
def changePosture (new : Posture) (cause : PostureCause) (s : State) : State :=
  let prev := s.pev.posture
  let told := emit .posture 0 new.code prev.code cause.code { s with pev.posture := new }
  postUnordered (announcements new prev cause) told

/-! ## Evaluation (R26-R28, R31) -/

/-- The descent timer where the candidate is below the posture (R28). -/
def descend (s : State) : Descent :=
  match s.pev.descent with
  | .stopped => if s.pev.held then .paused s.pev.thresholds.descentTime else .running s.pev.thresholds.descentTime
  | .running n => .running n
  | .paused n => .paused n

/-- An evaluation (R26) on the inputs held; a rise is reported with the cause given (R27, R32). -/
def evaluateWith (cause : PostureCause) (s : State) : State :=
  let c := candidateOf s
  let kept := { s with pev.candidate := c }
  if s.pev.posture.code < c.code then changePosture c cause { kept with pev.descent := .stopped }
  else if c.code < s.pev.posture.code ∧ s.pev.posture ≠ .closed then { kept with pev.descent := descend s }
  else { kept with pev.descent := .stopped }

/-- An evaluation whose rise is a RISE (R27). -/
def evaluate (s : State) : State := evaluateWith .rise s

/-- The change between RUNNING and PAUSED at a completion (R30). -/
def pauseResume (held : Bool) (d : Descent) : Descent :=
  match d with
  | .stopped => .stopped
  | .running n => if held then .paused n else .running n
  | .paused n => if held then .paused n else .running n

/-- An accounting completion reaches the PEV (R24, R26, R30). -/
def pevCompletion (a : Accounting) (s : State) : State :=
  evaluate { s with
    pev.time := a.time, pev.inflow := a.inflow, pev.deficit := a.deficit, pev.held := a.held, pev.level := a.level,
    pev.descent := pauseResume a.held s.pev.descent }

/-- A depth value or freshness reaches the PEV (R24). -/
def pevDepth (n : Fin 2) (d : Delivery) (s : State) : State :=
  let fresh := { s with pev.depthFresh := upd s.pev.depthFresh n fun f => d.fresh.getD f }
  evaluate <| match d.value with
    | some v => { fresh with pev.depth := s.pev.depth.set n (some v) }
    | none => fresh

/-- A float value or freshness reaches the PEV (R24). -/
def pevFloat (d : Delivery) (s : State) : State :=
  let fresh := { s with pev.floatFresh := d.fresh.getD s.pev.floatFresh }
  evaluate <| match d.value, d.channel with
    | some v, 0 => { fresh with pev.lowFloat := some v }
    | some v, 1 => { fresh with pev.highFloat := some v }
    | _, _ => fresh

/-- A pump state change reported by the PDX (R24). -/
def pevPumpCount (n : Nat) (s : State) : State := evaluate { s with pev.pumpCount := n }

/-- The depth node assignment changed (R24). -/
def pevDepthReassigned (n : Fin 2) (s : State) : State :=
  evaluate { s with pev.depth := s.pev.depth.set n none, pev.depthFresh := s.pev.depthFresh.set n .never }

/-- The float node assignment changed (R24). -/
def pevFloatReassigned (s : State) : State :=
  evaluate { s with pev.lowFloat := none, pev.highFloat := none, pev.floatFresh := .never }

/-! ## Descent expiry (R29) -/

/-- The descent timer after the drop (R29). -/
def afterDrop (s : State) (new : Posture) : Descent :=
  if s.pev.candidate.code < new.code then .running s.pev.thresholds.descentTime else .stopped

/-- The expiry of a RUNNING descent timer with no seconds left (R29, log 6). -/
def descentEnds (s : State) : State :=
  if s.pev.descent = .running 0 ∧ s.pev.posture ≠ .dry ∧ s.pev.posture ≠ .closed then
    let new := s.pev.posture.stepDown
    changePosture new .descent { s with pev.descent := afterDrop s new }
  else s

/-! ## CLOSE ROADWAY and REOPEN (R32, R33) -/

/-- CLOSE ROADWAY (R32). -/
def closeRoadway (s : State) : State := evaluateWith .closeRoadway { s with pev.forced := true }

/-- REOPEN is accepted (R33). -/
def reopenAccepted (s : State) : Bool := s.pev.posture = .closed && candidateWith false s ≠ .closed

/-- The detail of a refused REOPEN: the first condition of the table of R33. -/
def reopenDetail (s : State) : Nat :=
  if s.pev.posture ≠ .closed then 0
  else if timeTerm s.pev.thresholds.closeTime s then 1
  else if depthTerm 0 s.pev.thresholds.closeDepth s then 2
  else 3

/-- An accepted REOPEN (R33). -/
def reopen (s : State) : State :=
  let c := candidateWith false s
  changePosture c .reopen { s with pev.forced := false, pev.candidate := c, pev.descent := .stopped }

end Sys2Proof.Machine
end

