-- ==== Sys2Proof/Machine/Requests.lean ====
section
/-! DEFINITION. The Request Agent (10_request_reference.md): taking a request, placing its REPLY, and the requests that read
the part or act on a block. WRITE FIELD stands in Writes.lean, RESET PART's reset in Resets.lean. -/

namespace Sys2Proof.Machine

/-! ## Answers (R170, R171) -/

/-- A refusal: its status and detail, value 0 (R170). -/
def refused (st : Status) (detail : Nat) : Answer := { status := st, detail := detail, result := .value 0 }

/-- OK with a value and a detail. -/
def okWith (v : Int) (detail : Nat) : Answer := { status := .ok, detail := detail, result := .value v }

/-- ACCEPTED. -/
def acceptedAnswer : Answer := { status := .accepted, detail := 0, result := .value 0 }

/-- The collection a pump stands in (R181). -/
def pumpCollection (i : Fin 6) (s : State) : Nat :=
  if s.pdx.lockoutSet[i] then 2 else if s.pdx.faultSet[i] then 1 else 0

/-- The pump's place in the roster, 1 for the head, or 0 (R181). -/
def rosterPlace (i : Fin 6) (s : State) : Nat := match s.pdx.roster.idxOf? i with
  | some n => n + 1
  | none => 0

/-- The value of an answer at the placing of its REPLY. -/
def resultValue (r : Result) (s : State) : Int :=
  match r with
  | .value v => v
  | .posture => s.pev.posture.code
  | .rosterPlace i => rosterPlace i s

/-- The detail of an answer at the placing of its REPLY. -/
def resultDetail (a : Answer) (s : State) : Nat :=
  match a.result with
  | .rosterPlace i => pumpCollection i s
  | .value _ => a.detail
  | .posture => a.detail

/-- OK and ACCEPTED count as accepted (R170). -/
def Status.accepts (st : Status) : Bool := st = .ok || st = .accepted

/-- The REPLY of an answer (R170, R195). -/
def replyCell (number index : Nat) (a : Answer) (s : State) : Cell :=
  formCell s 5 0 number (resultValue a.result s) a.status.code (resultDetail a s) index

/-- The request counts at the placing of a REPLY (R170). -/
def countReply (st : Status) (s : State) : State :=
  if st.accepts then { s with rqa.accepted := bump s.rqa.accepted } else { s with rqa.refused := bump s.rqa.refused }

/-- The REPLY is placed: offered, the reply slot occupied, the request counted (R169, R170). -/
def placeReply (number index : Nat) (a : Answer) (s : State) : State :=
  offer .reply (replyCell number index a s) (countReply a.status { s with rqa.replySlot := true })

/-! ## Taking a request (R169) -/

/-- A request by its number, its index byte and its handling: discarded as an overrun while the reply slot is occupied; else
handled whole, its REPLY behind the events of its handling (R169, R170). -/
def takeRequest (number index : Nat) (handle : State → Answer × State) (s : State) : State :=
  if s.rqa.replySlot then { s with rqa.overrun := bump s.rqa.overrun }
  else post (.reply number index (handle s).1) (handle s).2

/-- A request that changes nothing but its REPLY. -/
def readOnly (answer : State → Answer) (s : State) : Answer × State := (answer s, s)

/-- A request on a pump: an index that is no installed pump is refused with RANGE, detail 1 (R170). -/
def onPump (index : Nat) (handle : Fin 6 → State → Answer × State) (s : State) : Answer × State :=
  match pumpIndex index s with
  | some i => handle i s
  | none => (refused .range 1, s)

/-- A request on a portal (R170). -/
def onPortal (index : Nat) (handle : Fin 2 → State → Answer × State) (s : State) : Answer × State :=
  match portalIndex index s with
  | some p => handle p s
  | none => (refused .range 1, s)

/-- A request on a zone (R170). -/
def onZone (index : Nat) (handle : Fin 8 → State → Answer × State) (s : State) : Answer × State :=
  match zoneIndex index s with
  | some z => handle z s
  | none => (refused .range 1, s)

/-! ## STATUS, READ ESTIMATES, READ LOAD (R172-R174) -/

/-- STATUS (R172): an accepted one clears the events-lost flag after the summary is formed. -/
def statusRequest (page : Nat) (s : State) : Answer × State :=
  let cleared := { s with lif.eventsLost := false }
  match page with
  | 0 => (okWith (statusPage0 s) (summary s), cleared)
  | 1 => (okWith (statusPage1 s) (summary s), cleared)
  | 2 => (okWith (statusPage2 s) (summary s), cleared)
  | 3 => (okWith (statusPage3 s) (summary s), cleared)
  | _ => (refused .range (summary s), s)

/-- A quantity of the accounting record (R173). -/
def estimateField (field : Nat) (s : State) : Option (Option Int) :=
  match field with
  | 0 => some (s.sau.est.map (·.volume))
  | 1 => some (s.sau.est.map (·.outflow))
  | 2 => some (s.sau.est.map (·.netRise))
  | 3 => some (s.sau.est.map (·.inflow))
  | 4 => some (s.sau.est.map (·.headroom))
  | 5 => some (s.sau.est.map (·.time))
  | 6 => some (s.sau.est.map (·.deficit))
  | 7 => some (some s.sau.cAvail)
  | 8 => some s.sau.vRoad
  | 9 => some s.sau.level
  | 10 => some s.sau.baseline
  | _ => none

/-- READ ESTIMATES (R173). -/
def readEstimates (field : Nat) (s : State) : Answer :=
  match estimateField field s with
  | some v => okWith (orAbsent v) (estimateFlags s)
  | none => refused .range (estimateFlags s)

/-- A quantity of the Load Account (R174). -/
def loadField (field : Nat) (s : State) : Option (Option Int) :=
  match field with
  | 0 => some (some (tierLimit s))
  | 1 => some (some (grantedSum s.lda.claims))
  | 2 => some (some (waitingSum s.lda.claims))
  | 3 => some (some s.lda.allowance)
  | 4 => some (some s.lda.cAvail)
  | 5 => some s.lda.battery
  | 6 => some s.lda.mains
  | 7 => some s.lda.generator
  | _ => none

/-- READ LOAD (R174). -/
def readLoad (field : Nat) (s : State) : Answer :=
  match loadField field s with
  | some v => okWith (orAbsent v) (loadFlags s)
  | none => refused .range (loadFlags s)

/-! ## READ COUNTERS (R176) -/

/-- The out-of-span count of a node's channel (R176). -/
def outOfSpanCount (address channel : Nat) (s : State) : Option Nat :=
  ((findNode address s).bind fun n => n.channels[channel]?).map (·.outOfSpan)

/-- The out-of-span count of a channel cleared. -/
def clearOutOfSpan (address channel : Nat) (s : State) : State :=
  updNode address (fun n => n.updChannel channel fun c => { c with outOfSpan := 0 }) s

/-- Two counters in one value (R176). -/
def twoCounters (a b : Nat) : Answer := okWith (packHalves a b) 0

/-- READ COUNTERS (R176): the two counters of a group are returned and cleared. -/
def readCounters (group index : Nat) (s : State) : Answer × State :=
  match group with
  | 0 => (twoCounters s.lif.checkErrorsA s.lif.checkErrorsB, { s with lif.checkErrorsA := 0, lif.checkErrorsB := 0 })
  | 1 => (twoCounters s.lif.malformedA s.lif.malformedB, { s with lif.malformedA := 0, lif.malformedB := 0 })
  | 2 => (twoCounters s.lif.foreign s.lif.misdirected, { s with lif.foreign := 0, lif.misdirected := 0 })
  | 3 => (twoCounters s.lif.forwardDrops s.lif.eventDrops, { s with lif.forwardDrops := 0, lif.eventDrops := 0 })
  | 4 => (twoCounters s.lif.passDrops s.rqa.overrun, { s with lif.passDrops := 0, rqa.overrun := 0 })
  | 5 => (twoCounters s.siu.roleMismatch s.siu.unknownSource, { s with siu.roleMismatch := 0, siu.unknownSource := 0 })
  | 6 => (twoCounters s.rqa.accepted s.rqa.refused, { s with rqa.accepted := 0, rqa.refused := 0 })
  | g =>
    if 16 ≤ g ∧ g ≤ 23 then
      match outOfSpanCount index (g - 16) s with
      | some n => (twoCounters n 0, clearOutOfSpan index (g - 16) s)
      | none => (refused .range 0, s)
    else (refused .range 0, s)

/-! ## The stage-table edit (R3, R5, R6) -/

/-- OPEN EDIT (R3). -/
def openEditRequest (s : State) : Answer × State :=
  if stormy s then (refused .posture 0, s)
  else if editOpen s then (refused .edit 0, s)
  else (okWith 0 0, openEdit s)

/-- CLOSE EDIT (R5). -/
def closeEditRequest (s : State) : Answer × State :=
  match s.sau.staging with
  | none => (refused .edit 0, s)
  | some t => if t.valid then (okWith 0 0, replaceTable t s) else (refused .table (closeEditDetail t), s)

/-- ABANDON EDIT (R6). -/
def abandonEditRequest (s : State) : Answer × State :=
  if editOpen s then (okWith 0 0, abandonEdit s) else (refused .edit 0, s)

/-! ## Completions and operations (R99-R102, R115, R179) -/

/-- The REPLY of SENSE COMPLETION: its index and its answer (R179). An absent detail is the marker of a half (R192). -/
def senseAnswer (s : State) : Nat × Answer :=
  match s.psq.completions with
  | [] => (0, okWith 0 0)
  | e :: _ =>
    (e.target, okWith (packHalves (e.detail.getD absentHalf) (e.uptime.toNat % 65536)) (e.op.code * 16 + e.outcome.code))

/-- SENSE COMPLETION (R102, R179). Its REPLY's index is the entry's target. -/
def senseRequest (s : State) : State :=
  if s.rqa.replySlot then { s with rqa.overrun := bump s.rqa.overrun }
  else post (.reply 10 (senseAnswer s).1 (senseAnswer s).2) { s with psq.completions := s.psq.completions.tail }

/-- A gate request that is refused, or accepted with its work. -/
def gateAnswer (refusal : Option Status) (work : State → State) (s : State) : Answer × State :=
  match refusal with
  | some st => (refused st 0, s)
  | none => (acceptedAnswer, work s)

/-- HOME GATE (R100). -/
def homeGateRequest (p : Fin 2) (s : State) : Answer × State := gateAnswer (homeRefusal p s) (homeGate p) s

/-- MOVE GATE with value 0 (R101). -/
def moveOpenRequest (p : Fin 2) (s : State) : Answer × State := gateAnswer (moveOpenRefusal p s) (moveGateOpen p) s

/-- MOVE GATE with value 1 (R101). -/
def moveCloseRequest (p : Fin 2) (s : State) : Answer × State := gateAnswer (moveCloseRefusal p s) (moveGateClose p) s

/-- LAMP TEST (R115). -/
def lampTestRequest (z : Fin 8) (s : State) : Answer × State :=
  match lampTestRefusal z s with
  | some st => (refused st 0, s)
  | none =>
    match lampTest z s with
    | (none, t) => (acceptedAnswer, t)
    | (some st, t) => (refused st 0, t)

/-! ## Posture and pump requests (R180, R181) -/

/-- REOPEN (R33, R180). -/
def reopenRequest (s : State) : Answer × State :=
  if reopenAccepted s then ({ status := .ok, detail := 0, result := .posture }, reopen s)
  else ({ status := .posture, detail := reopenDetail s, result := .posture }, s)

/-- CLOSE ROADWAY (R32, R180). -/
def closeRoadwayRequest (s : State) : Answer × State :=
  ({ status := .ok, detail := 0, result := .posture }, closeRoadway s)

/-- OK with the pump's place and collection (R181). -/
def pumpOk (i : Fin 6) : Answer := { status := .ok, detail := 0, result := .rosterPlace i }

/-- LOCK PUMP (R61, R181). A pump in the lockout set is answered OK also while it is up under SUPERVISOR authority (log 28). -/
def lockRequest (i : Fin 6) (s : State) : Answer × State :=
  if !s.pdx.lockoutSet[i] && !partHas (pumpSlot i) s && s.pdx.pumps[i].up then (refused .authority 0, s)
  else (pumpOk i, lockPump i s)

/-- UNLOCK PUMP (R62, R181). -/
def unlockRequest (i : Fin 6) (s : State) : Answer × State := (pumpOk i, unlockPump i s)

/-- The detail of a refused CLEAR FAULT (R181). -/
def clearFaultDetail (i : Fin 6) (s : State) : Nat :=
  if s.pdx.pumps[i].state ≠ .faulted then 1
  else if s.pdx.pumps[i].fresh ≠ .fresh then 2
  else if s.pdx.pumps[i].report.isNone then 3
  else 4

/-- CLEAR FAULT (R63, R181). -/
def clearFaultRequest (i : Fin 6) (s : State) : Answer × State :=
  if faultClearable i s then (pumpOk i, clearPumpFault i s) else (refused .notReady (clearFaultDetail i s), s)

/-- ROTATE (R64, R181). -/
def rotateRequest (i : Fin 6) (s : State) : Answer × State :=
  if s.pdx.roster.contains i then (pumpOk i, rotatePump i s) else (refused .notReady 0, s)

/-- CLEAR UNKNOWN (R133). -/
def clearUnknownRequest (s : State) : Answer × State := (okWith 0 0, { s with siu.unknown := [] })

/-! ## The commissioning store (R182-R184) -/

/-- The range of a commissioning field (R182). -/
def identityRange (field : Nat) (v : Int) : Bool :=
  match field with
  | 1 => 60 ≤ v && v ≤ 62
  | 2 => 1 ≤ v && v ≤ 6
  | 3 => 1 ≤ v && v ≤ 2
  | 4 => 1 ≤ v && v ≤ 8
  | 5 => 0 ≤ v && v ≤ 65535
  | _ => false

/-- A commissioning value by its field id. -/
def Commissioned.get (c : Commissioned) (field : Nat) : Nat :=
  match field with
  | 1 => c.address
  | 2 => c.pumps
  | 3 => c.portals
  | 4 => c.zones
  | _ => c.siteCode

/-- The commissioning values with one field programmed. -/
def Commissioned.put (c : Commissioned) (field v : Nat) : Commissioned :=
  match field with
  | 1 => { c with address := v }
  | 2 => { c with pumps := v }
  | 3 => { c with portals := v }
  | 4 => { c with zones := v }
  | _ => { c with siteCode := v }

/-- The place of a commissioning field 1-5. -/
def identityPlace (field : Nat) : Option (Fin 5) := placeFrom1 5 field

/-- PROGRAM IDENTITY (R183). -/
def programRequest (field : Nat) (v : Int) (s : State) : Answer × State :=
  match identityPlace field with
  | none => (refused .malformed 3, s)
  | some k =>
    if !identityRange field v then (refused .range 2, s)
    else if s.rqa.store.programmed[k] then (refused .programmed 0, s)
    else (okWith v 0, writeThrough .commissioning { s with
      rqa.store := { stored := s.rqa.store.stored.put field v.toNat,
                     programmed := s.rqa.store.programmed.set k true } })

/-- READ IDENTITY (R184). -/
def readIdentity (field : Nat) (s : State) : Answer :=
  if field = 0 then okWith 7260 0
  else match identityPlace field with
    | none => refused .range 0
    | some k => okWith (packHalves (s.rqa.inUse.get field) (s.rqa.store.stored.get field)) (bit s.rqa.store.programmed[k])

/-- RESET PART (R189): the reset is held until the REPLY is sent. -/
def resetRequest (s : State) : Answer × State :=
  if stormy s then (refused .posture 0, s) else (okWith 0 0, { s with rqa.heldReset := true })

/-! ## The catalogue (R198) -/

/-- The table ids of the catalogue. -/
def tableKnown (t : Nat) : Bool := (1 ≤ t && t ≤ 13) || (16 ≤ t && t ≤ 24)

/-- The channel of a Node Table field id, and the field within it. -/
def channelField (field : Nat) : Option (Nat × Nat) :=
  if 16 ≤ field ∧ field < 144 ∧ field % 16 ≤ 10 then some (field / 16 - 1, field % 16) else none

/-- The field ids of a table. -/
def fieldKnown (t field : Nat) : Bool :=
  match t with
  | 1 => field ≤ 13
  | 2 => field ≤ 3
  | 3 => field ≤ 7
  | 4 => field ≤ 4 || (channelField field).isSome
  | 5 => field ≤ 7
  | 6 => field ≤ 2
  | 7 => field ≤ 8
  | 8 => field ≤ 9
  | 9 => field ≤ 6
  | 10 => 1 ≤ field && field ≤ 11
  | 11 => field ≤ 2
  | 12 => field ≤ 6
  | 13 => 1 ≤ field && field ≤ 5
  | 16 => field ≤ 12
  | 17 => field ≤ 3
  | 18 => field ≤ 11
  | 19 => field ≤ 6
  | 20 => field ≤ 4
  | 21 => field ≤ 12
  | 22 => field ≤ 11
  | 23 => field = 0
  | 24 => field = 0
  | _ => false

/-- The writable fields (R177): the run-time records, the commissioning store and the run-time fields of the Node Table but
the watch-hit latch are not written. -/
def fieldWritable (t field : Nat) : Bool :=
  if t = 4 then
    match channelField field with
    | some (_, f) => f ≤ 4 || f = 9
    | none => field ≤ 2
  else 1 ≤ t && t ≤ 12

/-- The tests of R170 that READ FIELD and WRITE FIELD share. -/
def catalogueRefusal (t field : Nat) : Option Answer :=
  if !tableKnown t then some (refused .malformed 2)
  else if !fieldKnown t field then some (refused .malformed 3)
  else none

/-! ## READ FIELD (R175): one function for each table. `none` is an index outside the table. -/

/-- A present value without a qualifier. -/
def field (v : Int) : Option Answer := some (okWith v 0)

/-- A value that may be absent, without a qualifier. -/
def optField (v : Option Int) : Option Answer := some (okWith (orAbsent v) 0)

/-- Table 1. -/
def readSite (f : Nat) (s : State) : Int :=
  match f with
  | 0 => s.site.levelNode
  | 1 => s.site.flowNode
  | 2 => s.site.floatNode
  | 3 => s.site.depthNode1
  | 4 => s.site.depthNode2
  | 5 => s.site.lumNode
  | 6 => s.site.supplyNode
  | 7 => s.site.period
  | 8 => s.site.dryMultiplier
  | 9 => s.site.litresPerCount
  | 10 => s.site.shift
  | 11 => bit s.site.flushOnLoss
  | 12 => s.site.takeover.code
  | _ => s.site.supervisionTimeout

/-- The stage table READ FIELD sees: the staging area while an edit is open (R4). -/
def shownStage (s : State) : StageTable := s.sau.staging.getD s.sau.table

/-- Table 2. -/
def readStage (f index : Nat) (s : State) : Option Answer :=
  let t := shownStage s
  match f with
  | 0 => if index = 0 then field t.count else none
  | 1 => if index = 0 then field t.spill else none
  | 2 => (place 16 index).bind fun n => field t.points[n].level
  | _ => (place 16 index).bind fun n => field t.points[n].volume

/-- Table 3. -/
def readThresholds (f : Nat) (t : Thresholds) : Int :=
  match f with
  | 0 => t.wetLevel
  | 1 => t.stormLevel
  | 2 => t.stormInflow
  | 3 => t.alertTime
  | 4 => t.closeTime
  | 5 => t.alertDepth
  | 6 => t.closeDepth
  | _ => t.descentTime

/-- A field of a channel record (R122, R131). -/
def readChannel (f : Nat) (c : Channel) : Option Int :=
  match f with
  | 0 => c.scaling.map (·.rawLow)
  | 1 => c.scaling.map (·.rawHigh)
  | 2 => c.scaling.map (·.engLow)
  | 3 => c.scaling.map (·.engHigh)
  | 4 => some c.watch.code
  | 5 => c.lastRaw
  | 6 => c.lastEng
  | 7 => c.lastFlags.map fun h => (h.toNat : Int)
  | 8 => some c.outOfSpan
  | 9 => some (bit c.latch)
  | _ => some (bit (wouldHit c.watch c.lastEng))

/-- A field of a node record (R119). -/
def readNode (f : Nat) (n : Node) : Option Int :=
  match channelField f with
  | some (c, g) => (n.channels[c]?).bind (readChannel g)
  | none =>
    match f with
    | 0 => some n.role.code
    | 1 => some n.channels.length
    | 2 => some n.staleTime
    | 3 => some n.freshness.code
    | _ => some (n.staleTimer.getD 0)

/-- Table 4: an address with no record returns the absent marker (R119). -/
def readNodeTable (f index : Nat) (s : State) : Option Answer :=
  if 1 ≤ index ∧ index ≤ 59 then optField ((findNode index s).bind (readNode f)) else none

/-- Table 5. -/
def readPumpConfig (f : Nat) (c : PumpConfig) : Int :=
  match f with
  | 0 => c.starterNode
  | 1 => c.ratedFlow
  | 2 => c.ratedPower
  | 3 => c.spinUp
  | 4 => c.minRun
  | 5 => c.minRest
  | 6 => c.stopConfirm
  | _ => c.startLimit

/-- Table 6. -/
def readLadder (f index : Nat) (l : Ladder) : Option Answer :=
  match f with
  | 0 => if index = 0 then field l.count else none
  | 1 => (placeFrom1 6 index).bind fun n => field l.rungs[n].start
  | _ => (placeFrom1 6 index).bind fun n => field l.rungs[n].stop

/-- Table 7. -/
def readLimits (f : Nat) (l : Limits) : Int :=
  match f with
  | 0 => l.mains
  | 1 => l.generator
  | 2 => l.battery
  | 3 => l.critical
  | 4 => l.depleted
  | 5 => l.reserve
  | 6 => l.criticalMv
  | 7 => l.cutoffMv
  | _ => l.lowMv

/-- Table 8. -/
def readPortalConfig (f : Nat) (c : PortalConfig) : Int :=
  match f with
  | 0 => c.driveNode
  | 1 => c.presenceNode
  | 2 => c.signalNode
  | 3 => c.travel
  | 4 => c.fullTravel
  | 5 => c.window
  | 6 => c.warning
  | 7 => c.clear
  | 8 => c.holdLong
  | _ => c.power

/-- Table 9. -/
def readZoneConfig (f : Nat) (c : ZoneConfig) : Int :=
  match f with
  | 0 => c.lampNode
  | 1 => c.channel
  | 2 => c.ratedPower
  | 3 => c.ratedCurrent
  | 4 => c.floor
  | 5 => c.shedPriority
  | _ => c.authority.code

/-- Table 10. -/
def readScene (f index : Nat) (c : Scene) : Option Answer :=
  match placeFrom1 8 f with
  | some z => (place 20 index).bind fun r => field (c.levels[r][z] : Int)
  | none =>
    if index ≠ 0 then none
    else match f with
      | 9 => field c.t1
      | 10 => field c.t2
      | _ => field c.t3

/-- Table 11. The configured authority is a field of the pump slots alone. -/
def readAuthority (f index : Nat) (s : State) : Option Answer :=
  match (place 20 index).map outputOf with
  | some (.pump i) =>
    let e := s.cfl.authority.pumps[i]
    match f with
    | 0 => field e.configured.code
    | 1 => field e.action.code
    | _ => field e.value
  | some (.zone z) =>
    let e := s.cfl.authority.zones[z]
    match f with
    | 0 => none
    | 1 => field e.action.code
    | _ => field e.value
  | _ => none

/-- Table 12: an absent condition is ANY, 255 (R196). -/
def readRule (f : Nat) (r : Rule) : Int :=
  match f with
  | 1 => r.slots.code
  | 2 => (r.posture.map (·.code)).getD 255
  | 3 => (r.tier.map (·.code)).getD 255
  | 4 => r.action.code
  | 5 => r.value
  | _ => bit r.standing

/-- Table 12. -/
def readRules (f index : Nat) (t : RuleTable) : Option Answer :=
  if f = 0 then (if index = 0 then field t.count else none)
  else (placeFrom1 32 index).bind fun n => field (readRule f t.entries[n])

/-- Table 16 (R38). -/
def readPump (f : Nat) (p : Pump) : Option Int :=
  match f with
  | 0 => some p.state.code
  | 1 => p.fault.map fun r => (r.code : Int)
  | 2 => some p.starts.length
  | 3 => p.lastStop.map (·.toInt)
  | 4 => p.runSince.map (·.toInt)
  | 5 => p.origin.map Config.originCode
  | 6 => p.stopCause.map fun c => (c.pumpCause.code : Int)
  | 7 => p.report.map fun h => ((h.toNat % 4 : Nat) : Int)
  | 8 => some p.fresh.code
  | 9 => some (bit p.limited)
  | 10 => some (bit p.powerWait)
  | 11 => p.starts.head?.map (·.toInt)
  | _ => p.starts.getLast?.map (·.toInt)

/-- Table 17 (R39). A place beyond the roster's length holds no member: it is outside the table's entries, since R175 excepts the
empty places of the claim list and the unknown-address set alone (log 16). -/
def readDispatch (f index : Nat) (s : State) : Option Answer :=
  (placeFrom1 6 index).bind fun n =>
    match f with
    | 0 => (s.pdx.roster[n.val]?).bind fun i => field i.val
    | 1 => field (maskOf fun i => s.pdx.faultSet[i])
    | 2 => field (maskOf fun i => s.pdx.lockoutSet[i])
    | _ => field s.pdx.demand

/-- Table 18 (R82), the goal as its slot value. -/
def readPortal (f : Nat) (p : Fin 2) (s : State) : Option Int :=
  let g := s.psq.portals[p]
  match f with
  | 0 => some g.state.code
  | 1 => g.fault.map fun r => (r.code : Int)
  | 2 => g.position
  | 3 => g.target.map fun t => goalValue p t s
  | 4 => g.closedBy.map Config.closedByCode
  | 5 => some (Config.presenceCode g.presence)
  | 6 => some (bit g.powerWait)
  | 7 => some (bit g.warned)
  | 8 => g.reportValue.bind fun v => g.reportFlags.map fun h => Config.driveReportCode v h
  | 9 => some g.driveFresh.code
  | 10 => g.op.map fun o => (o.code : Int)
  | _ => some g.presenceFresh.code

/-- Table 19. -/
def readZone (f : Nat) (z : Zone) : Int :=
  match f with
  | 0 => z.desired
  | 1 => Config.grantedPartCode z.part
  | 2 => z.output
  | 3 => bit z.fault
  | 4 => z.lowCount
  | 5 => z.goodCount
  | _ => bit z.test

/-- A field of a claim (R79). -/
def readClaim (f : Nat) (c : Claim) : Int :=
  match f with
  | 0 => c.owner.kindCode
  | 1 => c.owner.index
  | 2 => c.owner.band
  | 3 => c.amount
  | _ => if c.granted then 0 else 1

/-- Table 20: a place beyond the claims returns the absent marker (R79). -/
def readClaims (f index : Nat) (s : State) : Option Answer :=
  if index = 0 then none else optField ((s.lda.claims[index - 1]?).map (readClaim f))

/-- Table 21: a depth or float copy carries its freshness in the detail (R35, R198). -/
def readInputs (f : Nat) (s : State) : Option Answer :=
  let q := s.pev
  match f with
  | 0 => optField q.time
  | 1 => optField q.inflow
  | 2 => optField q.deficit
  | 3 => field (bit q.held)
  | 4 => optField q.level
  | 5 => some (okWith (orAbsent q.depth[0]) q.depthFresh[0].code)
  | 6 => some (okWith (orAbsent q.depth[1]) q.depthFresh[1].code)
  | 7 => field q.depthFresh[0].code
  | 8 => field q.depthFresh[1].code
  | 9 => some (okWith (orAbsent q.lowFloat) q.floatFresh.code)
  | 10 => some (okWith (orAbsent q.highFloat) q.floatFresh.code)
  | 11 => field q.floatFresh.code
  | _ => field q.pumpCount

/-- The last gate state of a gate slot (R167). A slot that is no gate slot has none, and READ FIELD answers it with the absent
marker (log 46). -/
def slotGate (k : Fin 20) (s : State) : Option Int :=
  match outputOf k with
  | .gate p => some s.cfl.gates[p].code
  | _ => none

/-- Table 22 (R167): a target carries its pending mark in the detail. -/
def readSlot (f : Nat) (k : Fin 20) (s : State) : Option Answer :=
  let e := s.cfl.slots[k]
  match f with
  | 0 => field e.node
  | 1 => field e.channel
  | 2 => some (okWith (orAbsent e.target) (bit e.pending))
  | 3 => optField e.emitted
  | 4 => field (bit e.pending)
  | 5 => optField (e.source.map fun x => (x.code : Int))
  | 6 => optField (e.cls.map fun x => (x.code : Int))
  | 7 => optField ((configuredAuthority k s).map fun x => (x.code : Int))
  | 8 => field e.effective.code
  | 9 => optField ((fallbackAction k s).map fun x => (x.code : Int))
  | 10 => optField ((fallbackValue k s).map Int.ofNat)
  | _ => optField (slotGate k s)

/-- Table 23: an empty place returns the absent marker (R132). -/
def readUnknown (index : Nat) (s : State) : Option Answer :=
  (placeFrom1 8 index).bind fun n => optField ((s.siu.unknown[n.val]?).map Int.ofNat)

/-- A field of a table with the one entry 0. -/
def atZero (index : Nat) (v : Int) : Option Answer := if index = 0 then field v else none

/-- READ FIELD of a known field (R175). A device table's index must name an installed device (R170). No table has a field for the
day band of R106; STATUS reports it (log 37). -/
def readTable (t f index : Nat) (s : State) : Option Answer :=
  let onPumps := fun (g : Fin 6 → Option Answer) => some (match pumpIndex index s with
    | some i => (g i).getD (refused .range 0)
    | none => refused .range 1)
  let onPortals := fun (g : Fin 2 → Option Answer) => some (match portalIndex index s with
    | some p => (g p).getD (refused .range 0)
    | none => refused .range 1)
  let onZones := fun (g : Fin 8 → Option Answer) => some (match zoneIndex index s with
    | some z => (g z).getD (refused .range 0)
    | none => refused .range 1)
  match t with
  | 1 => atZero index (readSite f s)
  | 2 => readStage f index s
  | 3 => atZero index (readThresholds f s.pev.thresholds)
  | 4 => readNodeTable f index s
  | 5 => onPumps fun i => field (readPumpConfig f s.pdx.config[i])
  | 6 => readLadder f index s.pdx.ladder
  | 7 => atZero index (readLimits f s.lda.limits)
  | 8 => onPortals fun p => field (readPortalConfig f s.psq.config[p])
  | 9 => onZones fun z => field (readZoneConfig f s.lse.config[z])
  | 10 => readScene f index s.lse.scene
  | 11 => readAuthority f index s
  | 12 => readRules f index s.cfl.rules
  | 13 => atZero index (s.rqa.store.stored.get f)
  | 16 => onPumps fun i => optField (readPump f s.pdx.pumps[i])
  | 17 => readDispatch f index s
  | 18 => onPortals fun p => optField (readPortal f p s)
  | 19 => onZones fun z => field (readZone f s.lse.zones[z])
  | 20 => readClaims f index s
  | 21 => if index = 0 then readInputs f s else none
  | 22 => (place 20 index).bind fun k => readSlot f k s
  | 23 => readUnknown index s
  | 24 => atZero index s.uptime.toInt
  | _ => none

/-- The table and the field in which READ FIELD finds the day band (R106): free values outside the fields R198 lists (log 37). -/
def dayBandPlace : Nat × Nat := (16 + Config.dayBandTable.val, 13 + Config.dayBandField.val)

/-- READ FIELD (R175). The day band stands at a place of its own, outside the catalogue (R106, log 37). -/
def readField (t f index : Nat) (s : State) : Answer :=
  match catalogueRefusal t f with
  | some a => if (t, f) = dayBandPlace then okWith s.lse.band.code 0 else a
  | none => (readTable t f index s).getD (refused .range 0)

end Sys2Proof.Machine
end

