-- ==== Sys2Proof/Machine/Writes.lean ====
section
/-! DEFINITION. WRITE FIELD (R177, R178): for each table the tests in their order, the write, and its follow-on work. A write
whose value equals the value held is a write as any other (R178). -/

namespace Sys2Proof.Machine

/-- A value in a range, both ends included. -/
def within (lo hi : Int) (v : Int) : Bool := lo ≤ v && v ≤ hi

/-- The refusal of a value out of its range: RANGE, detail 2 (R170). -/
def badValue : Answer := refused .range 2

/-- The refusal of an index outside the table: RANGE, detail 0 (R170, R177). -/
def badIndex : Answer := refused .range 0

/-- The first test that fails refuses the write and changes nothing; else the value is written and OK carries it (R178). -/
def decideWrite (refusal : Option Answer) (v : Int) (work : State → State) (s : State) : Answer × State :=
  match refusal with
  | some a => (a, s)
  | none => (okWith v 0, work s)

/-- The first refusal of a list of tests: each a condition that refuses, with its answer. -/
def firstRefusal : List (Bool × Answer) → Option Answer
  | [] => none
  | (b, a) :: rest => if b then some a else firstRefusal rest

/-- An assignment write of a non-zero address names a record of the role, and is distinct where it must be (R123). -/
def assignable (a : Assignment) (address : Nat) (distinct : Bool) (s : State) : Bool :=
  address = 0 || ((findNode address s).any (fun n => n.role = a.role) && distinct)

/-! ## Site table (R123, R198) -/

/-- The range of a Site field (R198). -/
def siteRange (f : Nat) (v : Int) : Bool :=
  if f ≤ 6 then within 0 59 v
  else match f with
    | 7 => within 1 60 v
    | 8 => within 1 8 v
    | 9 => within 1 1000 v
    | 10 => within 0 4 v
    | 11 => within 0 1 v
    | 12 => within 0 4 v
    | _ => within 5 300 v

/-- The assignment of a Site field. -/
def siteAssignment (f : Nat) : Option Assignment :=
  match f with
  | 0 => some .level
  | 1 => some .flowmeter
  | 2 => some .float
  | 3 => some .depth1
  | 4 => some .depth2
  | 5 => some .luminance
  | 6 => some .supply
  | _ => none

/-- Depth nodes 1 and 2 are distinct (R123). -/
def siteDistinct (f address : Nat) (s : State) : Bool :=
  match f with
  | 3 => address ≠ s.site.depthNode2
  | 4 => address ≠ s.site.depthNode1
  | _ => true

/-- The Site table with a field written. -/
def Site.put (t : Site) (f v : Nat) : Site :=
  match f with
  | 0 => { t with levelNode := v }
  | 1 => { t with flowNode := v }
  | 2 => { t with floatNode := v }
  | 3 => { t with depthNode1 := v }
  | 4 => { t with depthNode2 := v }
  | 5 => { t with lumNode := v }
  | 6 => { t with supplyNode := v }
  | 7 => { t with period := v }
  | 8 => { t with dryMultiplier := v }
  | 9 => { t with litresPerCount := v }
  | 10 => { t with shift := v }
  | 11 => { t with flushOnLoss := v = 1 }
  | 12 => { t with takeover := (Posture.ofCode v).getD t.takeover }
  | _ => { t with supervisionTimeout := v }

/-- The float node assignment changed: the PEV's and the PDX's copies become absent and NEVER (R24, R44). -/
def floatReassigned (s : State) : State :=
  post (.dispatch true) <| pevFloatReassigned
    { s with pdx.lowFloat := none, pdx.highFloat := none, pdx.floatFresh := .never }

/-- The supply node assignment changed (R65). -/
def supplyReassigned (s : State) : State :=
  { s with lda.mains := none, lda.generator := none, lda.battery := none, lda.fresh := .never }

/-- The follow-on work of a Site write (R9, R24, R65, R106, R153). -/
def siteFollow (f : Nat) (s : State) : State :=
  match f with
  | 0 => levelReassigned (clearMark .level s)
  | 1 => flowReassigned (clearMark .flowmeter s)
  | 2 => floatReassigned (clearMark .float s)
  | 3 => pevDepthReassigned 0 (clearMark .depth1 s)
  | 4 => pevDepthReassigned 1 (clearMark .depth2 s)
  | 5 => { clearMark .luminance s with lse.lumFresh := .never }
  | 6 => supplyReassigned (clearMark .supply s)
  | 12 => recomputeAuthority s
  | _ => s

/-- The refusal of a Site write: posture, range, order (R177, R123). -/
def siteRefusal (f index : Nat) (v : Int) (s : State) : Option Answer :=
  firstRefusal
    [(stormy s, refused .posture 0), (index ≠ 0, badIndex), (!siteRange f v, badValue),
      ((siteAssignment f).any fun a => !assignable a v.toNat (siteDistinct f v.toNat s) s, refused .table 0)]

/-- WRITE FIELD on the Site table (R123). -/
def writeSite (f index : Nat) (v : Int) (s : State) : Answer × State :=
  decideWrite (siteRefusal f index v s) v
    (fun t => siteFollow f (writeThrough .site { t with site := t.site.put f v.toNat })) s

/-! ## Stage table (R4) -/

/-- The staging area with a field written; none for an index outside the table. -/
def stagePut (t : StageTable) (f index v : Nat) : Option StageTable :=
  match f with
  | 0 => if index = 0 then some { t with count := v } else none
  | 1 => if index = 0 then some { t with spill := v } else none
  | 2 => (place 16 index).map fun n => { t with points := upd t.points n fun p => { p with level := v } }
  | _ => (place 16 index).map fun n => { t with points := upd t.points n fun p => { p with volume := v } }

/-- The range of a stage-table field (R4). -/
def stageRange (f : Nat) (v : Int) : Bool :=
  match f with
  | 0 => within 2 16 v
  | 3 => within 0 4000000 v
  | _ => within 0 15000 v

/-- WRITE FIELD on the stage table: the staging area is written while an edit is open (R4). The index is tested before the value
(log 16). -/
def writeStage (f index : Nat) (v : Int) (s : State) : Answer × State :=
  match s.sau.staging with
  | none => (refused .edit 0, s)
  | some t =>
    match stagePut t f index v.toNat with
    | none => (badIndex, s)
    | some u => if stageRange f v then (okWith v 0, { s with sau.staging := some u }) else (badValue, s)

/-! ## Posture thresholds (R23) -/

/-- The range of a threshold (R23). -/
def thresholdRange (f : Nat) (v : Int) : Bool :=
  match f with
  | 0 => within 0 15000 v
  | 1 => within 0 15000 v
  | 2 => within 1 20000 v
  | 3 => within 1 65534 v
  | 4 => within 1 65534 v
  | 5 => within 1 1000 v
  | 6 => within 1 1000 v
  | _ => within 60 3600 v

/-- The thresholds with a field written. -/
def Thresholds.put (t : Thresholds) (f v : Nat) : Thresholds :=
  match f with
  | 0 => { t with wetLevel := v }
  | 1 => { t with stormLevel := v }
  | 2 => { t with stormInflow := v }
  | 3 => { t with alertTime := v }
  | 4 => { t with closeTime := v }
  | 5 => { t with alertDepth := v }
  | 6 => { t with closeDepth := v }
  | _ => { t with descentTime := v }

/-- The three orderings of R23. -/
def Thresholds.ordered (t : Thresholds) : Bool :=
  t.wetLevel ≤ t.stormLevel && t.closeTime ≤ t.alertTime && t.alertDepth ≤ t.closeDepth

/-- WRITE FIELD on the posture thresholds (R23). A new descent time leaves a descent in progress with the time it has left
(log 43). -/
def writeThresholds (f index : Nat) (v : Int) (s : State) : Answer × State :=
  decideWrite
    (firstRefusal
      [(index ≠ 0, badIndex), (!thresholdRange f v, badValue),
        (!(s.pev.thresholds.put f v.toNat).ordered, refused .table 0)]) v
    (fun t => evaluate (writeThrough .thresholds { t with pev.thresholds := t.pev.thresholds.put f v.toNat })) s

/-! ## Node Table (R121, R122) -/

/-- The node is the starter of a pump in STARTING, RUNNING or STOPPING, or the drive of a gate in motion (R121). -/
def nodeInMotion (address : Nat) (s : State) : Bool :=
  ((List.finRange 6).any fun i => s.pdx.config[i].starterNode = address &&
    (s.pdx.pumps[i].up || s.pdx.pumps[i].state = .stopping)) ||
  (List.finRange 2).any fun p => s.psq.config[p].driveNode = address && s.psq.portals[p].state.moving

/-- An assignment of R123 names the node. -/
def nodeAssigned (address : Nat) (s : State) : Bool := Assignment.all.any fun a => assignedAddress a s = address

/-- The channel records of the table (R119). -/
def channelTotal (s : State) : Nat := (s.siu.nodes.map fun n => n.channels.length).sum

/-- The channel count of an address's record. -/
def channelsAt (address : Nat) (s : State) : Nat := ((findNode address s).map fun n => n.channels.length).getD 0

/-- Channel records from one number up to another, with their defaults (R121, R122). -/
def freshChannels (r : Role) (lo hi : Nat) : List Channel :=
  (List.range hi).drop lo |>.map fun c => .fresh (r.channelKind c)

/-- The record a write of a role creates (R121). -/
def newNode (address : Nat) (r : Role) : Node :=
  { address := address, role := r, staleTime := 10, freshness := .never, staleTimer := none,
    channels := freshChannels r 0 r.minimumCount }

/-- A record put at its place in ascending order of address (R119). -/
def insertNode (n : Node) : List Node → List Node
  | [] => [n]
  | m :: rest => if n.address < m.address then n :: m :: rest else m :: insertNode n rest

/-- The range of a Node Table field (R119, R122). -/
def nodeRange (f : Nat) (v : Int) : Bool :=
  match channelField f with
  | some (_, g) => if g ≤ 3 then within (-1000000) 1000000 v else if g = 4 then within 0 5 v else v = 0
  | none =>
    match f with
    | 0 => within 0 11 v
    | 1 => within 1 8 v
    | _ => within 1 120 v

/-- A channel record with a configuration field written; a watch code clears the latch (R122). -/
def Channel.put (c : Channel) (g : Nat) (v : Int) : Channel :=
  match g with
  | 0 => { c with scaling := c.scaling.map fun x => { x with rawLow := v } }
  | 1 => { c with scaling := c.scaling.map fun x => { x with rawHigh := v } }
  | 2 => { c with scaling := c.scaling.map fun x => { x with engLow := v } }
  | 3 => { c with scaling := c.scaling.map fun x => { x with engHigh := v } }
  | 4 => { c with watch := (WatchCode.ofCode v).getD c.watch, latch := false }
  | _ => { c with latch := false }

/-- TABLE of a write to a role (R121). -/
def roleTable (address : Nat) (r : Role) (s : State) : Bool :=
  match findNode address s with
  | none => 40 ≤ s.siu.nodes.length || 128 < channelTotal s + r.minimumCount
  | some n => n.role ≠ r && 128 < channelTotal s - n.channels.length + r.minimumCount

/-- BUSY of a write of another role or NONE (R121). -/
def roleBusy (address : Nat) (r : Option Role) (s : State) : Bool :=
  (findNode address s).any (fun n => some n.role ≠ r) && nodeAssigned address s

/-- TABLE of a channel count (R121). -/
def countTable (n : Node) (count : Nat) (s : State) : Bool :=
  count < n.role.minimumCount || (n.channels.length < count && 128 < channelTotal s - n.channels.length + count)

/-- BUSY of a lowered channel count: a zone names a channel it would remove (R121). -/
def countBusy (n : Node) (count : Nat) (s : State) : Bool :=
  count < n.channels.length && (List.finRange 8).any fun z =>
    s.lse.config[z].lampNode = n.address && count ≤ s.lse.config[z].channel && s.lse.config[z].channel < n.channels.length

/-- TABLE of a channel field (R121). -/
def channelTable (n : Node) (c g : Nat) (v : Int) : Bool :=
  match n.channels[c]? with
  | none => true
  | some ch =>
    (g = 4 && v ≠ 0 && n.role.channelKind c ≠ .digital) || (g ≤ 3 && n.role.channelKind c ≠ .analog) ||
      (ch.put g v).scaling.any fun x => x.rawHigh < x.rawLow

/-- The tests of R121 that belong to the field written, on an existing record or a role, in the order R121 makes them: TABLE
before BUSY for a role and a channel count. R177's busy step is BUSY as R121 gives it, behind that TABLE (log 42). -/
def nodeFieldRefusal (f address : Nat) (v : Int) (s : State) : Option Answer :=
  match channelField f, findNode address s with
  | some (c, g), some n => firstRefusal [(channelTable n c g v, refused .table 0)]
  | some _, none => some badIndex
  | none, found =>
    match f with
    | 0 => firstRefusal
        [((Role.ofCode v).any fun r => roleTable address r s, refused .table 0),
          (roleBusy address (Role.ofCode v) s, refused .busy 0)]
    | 1 =>
      match found with
      | some n => firstRefusal [(countTable n v.toNat s, refused .table 0), (countBusy n v.toNat s, refused .busy 0)]
      | none => some badIndex
    | _ => if found.isSome then none else some badIndex

/-- A field other than the role of an address with no record: an index outside the table (R121). -/
def nodeMissing (f address : Nat) (s : State) : Bool := f ≠ 0 && (findNode address s).isNone

/-- The refusal of a Node Table write, in the order of R121; within its RANGE row the address is tested before the value
(log 16). -/
def nodeRefusal (f address : Nat) (v : Int) (s : State) : Option Answer :=
  match firstRefusal
      [(stormy s, refused .posture 0), (!(1 ≤ address && address ≤ 59), badIndex), (nodeMissing f address s, badIndex),
        (!nodeRange f v, badValue), ((findNode address s).isSome && nodeInMotion address s, refused .busy 0)] with
  | some a => some a
  | none => nodeFieldRefusal f address v s

/-- A write of a role: the record is created, changed or removed (R121). -/
def writeRole (address : Nat) (r : Option Role) (s : State) : State :=
  match r, findNode address s with
  | none, _ => { s with siu.nodes := s.siu.nodes.filter fun n => n.address ≠ address }
  | some r, none =>
    { s with siu.nodes := insertNode (newNode address r) s.siu.nodes,
             siu.unknown := s.siu.unknown.filter (· ≠ address) }
  | some r, some n =>
    if n.role = r then s
    else updNode address (fun m => { newNode address r with staleTime := m.staleTime }) s

/-- A node with another channel count (R121). -/
def Node.resize (n : Node) (count : Nat) : Node :=
  { n with channels := n.channels.take count ++ freshChannels n.role n.channels.length count }

/-- An accepted Node Table write (R121, R122). -/
def nodeWork (f address : Nat) (v : Int) (s : State) : State :=
  match channelField f with
  | some (c, g) => updNode address (fun n => n.updChannel c fun ch => ch.put g v) s
  | none =>
    match f with
    | 0 => writeRole address (Role.ofCode v) s
    | 1 => updNode address (fun n => n.resize v.toNat) s
    | _ => updNode address (fun n => { n with staleTime := v.toNat }) s

/-- The readings of the installed portals after a Node Table write: a record created anew may be the presence node an assignment
names, which is NEVER until its first cell (R84, R124). -/
def recomputeReadings (s : State) : State := (installedPortals s).foldl (fun t p => recomputePresence p t) s

/-- WRITE FIELD on the Node Table (R121). -/
def writeNodes (f address : Nat) (v : Int) (s : State) : Answer × State :=
  decideWrite (nodeRefusal f address v s) v
    (fun t => recomputeReadings (writeThrough .nodes (nodeWork f address v t))) s

/-! ## Pump table (R37) -/

/-- The range of a pump field (R37). -/
def pumpRange (f : Nat) (v : Int) : Bool :=
  match f with
  | 0 => within 0 59 v
  | 1 => within 0 5000 v
  | 2 => within 0 5000 v
  | 3 => within 2 60 v
  | 4 => within 30 1800 v
  | 5 => within 10 1800 v
  | 6 => within 5 60 v
  | _ => within 1 12 v

/-- A pump entry with a field written. -/
def PumpConfig.put (c : PumpConfig) (f v : Nat) : PumpConfig :=
  match f with
  | 0 => { c with starterNode := v }
  | 1 => { c with ratedFlow := v }
  | 2 => { c with ratedPower := v }
  | 3 => { c with spinUp := v }
  | 4 => { c with minRun := v }
  | 5 => { c with minRest := v }
  | 6 => { c with stopConfirm := v }
  | _ => { c with startLimit := v }

/-- BUSY of a pump table write (R37). -/
def pumpBusy (i : Fin 6) (f : Nat) (v : Int) (s : State) : Bool :=
  s.pdx.pumps[i].up || s.pdx.pumps[i].state = .stopping || holdsClaim (.pump i) s ||
    (f = 7 && v < (pruned i s).length)

/-- TABLE of a starter node write (R123). -/
def starterTable (i : Fin 6) (f : Nat) (v : Int) (s : State) : Bool :=
  f = 0 && !assignable (.starter i) v.toNat
    ((List.finRange 6).all fun j => j = i || s.pdx.config[j].starterNode ≠ v.toNat) s

/-- The follow-on work of a pump table write (R37, R78, R151). A new minimum rest or start limit leaves a running rest or limit
timer with the time it has left (log 43). -/
def pumpFollow (i : Fin 6) (f : Nat) (s : State) : State :=
  match f with
  | 0 => post (.dispatch true) <| recordNodes <| clearMark (.starter i) <|
      setPump i (fun p => { p with report := none, fresh := .never }) s
  | 1 => recomputeCAvail s
  | 2 => recomputeCAvail s
  | _ => s

/-- WRITE FIELD on the pump table entry of an installed pump (R37). The value's range is tested ahead of BUSY, that of the starter
node too, where R177 and R123 differ (log 44). -/
def writePump (f : Nat) (v : Int) (i : Fin 6) (s : State) : Answer × State :=
  decideWrite
    (firstRefusal
      [(stormy s, refused .posture 0), (!pumpRange f v, badValue), (pumpBusy i f v s, refused .busy 0),
        (starterTable i f v s, refused .table 0)]) v
    (fun t => pumpFollow i f
      (writeThrough .pumps { t with pdx.config := upd t.pdx.config i fun c => c.put f v.toNat })) s

/-! ## Level ladder (R41) -/

/-- The two orderings over the rungs in use (R41). -/
def orderedRungs : List Rung → Bool
  | [] => true
  | [r] => r.stop < r.start
  | r :: q :: rest => r.stop < r.start && r.start ≤ q.start && orderedRungs (q :: rest)

/-- The rungs in use are in order (R41). -/
def Ladder.ordered (l : Ladder) : Bool := orderedRungs (l.rungs.toList.take l.count)

/-- The ladder with a field written; none for an index outside the table. -/
def ladderPut (l : Ladder) (f index v : Nat) : Option Ladder :=
  match f with
  | 0 => if index = 0 then some { l with count := v } else none
  | 1 => (placeFrom1 6 index).map fun n => { l with rungs := upd l.rungs n fun r => { r with start := v } }
  | _ => (placeFrom1 6 index).map fun n => { l with rungs := upd l.rungs n fun r => { r with stop := v } }

/-- The write leaves a rung in use breaking an ordering; a rung above the count is checked for range alone (R41). -/
def ladderTable (l new : Ladder) (f index : Nat) : Bool := (f = 0 || index ≤ l.count) && !new.ordered

/-- WRITE FIELD on the level ladder (R41). -/
def writeLadder (f index : Nat) (v : Int) (s : State) : Answer × State :=
  match ladderPut s.pdx.ladder f index v.toNat with
  | none => (badIndex, s)
  | some l =>
    decideWrite
      (firstRefusal
        [(!(if f = 0 then within 0 6 v else within 0 15000 v), badValue),
          (ladderTable s.pdx.ladder l f index, refused .table 0)]) v
      (fun t => dispatchOn true (evaluateRungs t.sau.level (writeThrough .ladder { t with pdx.ladder := l }))) s

/-! ## Load limits (R69) -/

/-- The range of a load-limit field (R69). -/
def limitRange (f : Nat) (v : Int) : Bool :=
  if f ≤ 4 then within 0 20000 v else if f = 5 then within 0 1000 v else within 1000 65000 v

/-- The load limits with a field written. -/
def Limits.put (l : Limits) (f v : Nat) : Limits :=
  match f with
  | 0 => { l with mains := v }
  | 1 => { l with generator := v }
  | 2 => { l with battery := v }
  | 3 => { l with critical := v }
  | 4 => { l with depleted := v }
  | 5 => { l with reserve := v }
  | 6 => { l with criticalMv := v }
  | 7 => { l with cutoffMv := v }
  | _ => { l with lowMv := v }

/-- The reserve is not above any tier limit (R69). -/
def Limits.reserveOk (l : Limits) : Bool :=
  l.reserve ≤ l.mains && l.reserve ≤ l.generator && l.reserve ≤ l.battery && l.reserve ≤ l.critical &&
    l.reserve ≤ l.depleted

/-- Cutoff below critical below low-battery threshold (R69). -/
def Limits.ordered (l : Limits) : Bool := l.cutoffMv < l.criticalMv && l.criticalMv < l.lowMv

/-- The signal reserve claim takes the reserve's amount (R69, R70). -/
def setReserve (s : State) : State :=
  { s with lda.claims := s.lda.claims.map fun c =>
      if c.owner = .reserve then { c with amount := s.lda.limits.reserve } else c }

/-- The follow-on work of a load-limit write: a walk after a write to the present tier's limit or the reserve (R69). -/
def limitFollow (f : Nat) (s : State) : State :=
  if f = 5 ∨ f = s.lda.tier.code then walk none (setReserve s) else s

/-- WRITE FIELD on the load limits (R69). -/
def writeLimits (f index : Nat) (v : Int) (s : State) : Answer × State :=
  let new := s.lda.limits.put f v.toNat
  decideWrite
    (firstRefusal
      [(index ≠ 0, badIndex), (!limitRange f v, badValue), (f ≤ 5 && !new.reserveOk, refused .range 3),
        (6 ≤ f && !new.ordered, refused .table 0)]) v
    (fun t => limitFollow f (writeThrough .limits { t with lda.limits := new })) s

/-! ## Portal table (R81) -/

/-- The range of a portal field (R81). -/
def portalRange (f : Nat) (v : Int) : Bool :=
  match f with
  | 0 => within 0 59 v
  | 1 => within 0 59 v
  | 2 => within 0 59 v
  | 3 => within 100 20000 v
  | 4 => within 5 300 v
  | 5 => within 2 30 v
  | 6 => within 5 120 v
  | 7 => within 1 30 v
  | 8 => within 60 900 v
  | _ => within 0 1000 v

/-- A portal entry with a field written. -/
def PortalConfig.put (c : PortalConfig) (f v : Nat) : PortalConfig :=
  match f with
  | 0 => { c with driveNode := v }
  | 1 => { c with presenceNode := v }
  | 2 => { c with signalNode := v }
  | 3 => { c with travel := v }
  | 4 => { c with fullTravel := v }
  | 5 => { c with window := v }
  | 6 => { c with warning := v }
  | 7 => { c with clear := v }
  | 8 => { c with holdLong := v }
  | _ => { c with power := v }

/-- The other portal. -/
def otherPortal (p : Fin 2) : Fin 2 := if p = 0 then 1 else 0

/-- TABLE of a portal node write (R123). -/
def portalTable (p : Fin 2) (f : Nat) (v : Int) (s : State) : Bool :=
  let other := s.psq.config[otherPortal p]
  match f with
  | 0 => !assignable (.drive p) v.toNat (other.driveNode ≠ v.toNat) s
  | 1 => !assignable (.presence p) v.toNat (other.presenceNode ≠ v.toNat) s
  | 2 => !assignable (.signal p) v.toNat (other.signalNode ≠ v.toNat) s
  | _ => false

/-- The follow-on work of a portal table write (R81, R84, R113, R151). A new gate drive node leaves the last report as it was
(log 27), and a new warning, clear or hold-long time leaves a running timer with the time it has left (log 43). -/
def portalFollow (p : Fin 2) (f : Nat) (s : State) : State :=
  match f with
  | 0 => gateUnknown p (recordNodes (clearMark (.drive p) (setGate p (fun g => { g with driveFresh := .never }) s)))
  | 1 => presenceReassigned p (clearMark (.presence p) s)
  | 2 => writeAspects p (recordNodes (clearMark (.signal p) s))
  | 3 => gateUnknown p s
  | _ => s

/-- WRITE FIELD on the portal table entry of an installed portal (R81). The value's range is tested ahead of BUSY, that of a node
too, where R177 and R123 differ (log 44). -/
def writePortal (f : Nat) (v : Int) (p : Fin 2) (s : State) : Answer × State :=
  decideWrite
    (firstRefusal
      [(stormy s, refused .posture 0), (!portalRange f v, badValue),
        (s.psq.portals[p].state.moving || holdsClaim (.gate p) s, refused .busy 0),
        (portalTable p f v s, refused .table 0)]) v
    (fun t => portalFollow p f
      (writeThrough .portals { t with psq.config := upd t.psq.config p fun c => c.put f v.toNat })) s

/-! ## Zone table (R104) -/

/-- The range of a zone field (R104). -/
def zoneRange (f : Nat) (v : Int) : Bool :=
  match f with
  | 0 => within 0 59 v
  | 1 => within 0 7 v
  | 2 => within 0 2000 v
  | 3 => within 0 20000 v
  | 4 => within 0 100 v
  | 5 => within 1 8 v
  | _ => within 0 2 v

/-- A zone entry with a field written. -/
def ZoneConfig.put (c : ZoneConfig) (f v : Nat) : ZoneConfig :=
  match f with
  | 0 => { c with lampNode := v }
  | 1 => { c with channel := v }
  | 2 => { c with ratedPower := v }
  | 3 => { c with ratedCurrent := v }
  | 4 => { c with floor := v }
  | 5 => { c with shedPriority := v }
  | _ => { c with authority := (Authority.ofCode v).getD c.authority }

/-- A lamp node and channel fit a zone: a LAMP_DRIVER with the channel below its count, and no other zone's (R123). -/
def lampAssignable (z : Fin 8) (node channel : Nat) (s : State) : Bool :=
  assignable (.lamp z) node
    (((findNode node s).any fun n => channel < n.channels.length) &&
      (List.finRange 8).all fun w => w = z || (s.lse.config[w].lampNode, s.lse.config[w].channel) ≠ (node, channel)) s

/-- TABLE of a zone write (R123). -/
def zoneTable (z : Fin 8) (f : Nat) (v : Int) (s : State) : Bool :=
  match f with
  | 0 => !lampAssignable z v.toNat s.lse.config[z].channel s
  | 1 => !lampAssignable z s.lse.config[z].lampNode v.toNat s
  | _ => false

/-- The follow-on work of a zone table write (R104, R151, R153). -/
def zoneFollow (z : Fin 8) (f : Nat) (s : State) : State :=
  match f with
  | 0 => zoneRewired z (recordNodes (clearMark (.lamp z) (setZone z (fun r => { r with lampFresh := .never }) s)))
  | 1 => zoneRewired z (recordNodes (clearMark (.lamp z) s))
  | 2 => rematch z s
  | 4 => rematch z s
  | 6 => recomputeAuthority s
  | _ => s

/-- WRITE FIELD on the zone table entry of an installed zone (R104). The value's range is tested ahead of BUSY, that of the lamp
node too, where R177 and R123 differ (log 44). -/
def writeZone (f : Nat) (v : Int) (z : Fin 8) (s : State) : Answer × State :=
  decideWrite
    (firstRefusal
      [(stormy s, refused .posture 0), (!zoneRange f v, badValue), (s.lse.zones[z].test, refused .busy 0),
        (zoneTable z f v s, refused .table 0)]) v
    (fun t => zoneFollow z f
      (writeThrough .zones { t with lse.config := upd t.lse.config z fun c => c.put f v.toNat })) s

/-! ## Scene table (R105) -/

/-- The scene with a field written; none for an index outside the table. -/
def scenePut (c : Scene) (f index v : Nat) : Option Scene :=
  match placeFrom1 8 f with
  | some z => (place 20 index).map fun r => { c with levels := upd c.levels r fun row => row.set z v }
  | none =>
    if index ≠ 0 then none
    else match f with
      | 9 => some { c with t1 := v }
      | 10 => some { c with t2 := v }
      | _ => some { c with t3 := v }

/-- t1 < t2 < t3 (R105). -/
def Scene.ordered (c : Scene) : Bool := c.t1 < c.t2 && c.t2 < c.t3

/-- The follow-on work of a level write: the zone is re-evaluated if its desired level comes from that level (R105). -/
def sceneFollow (f index : Nat) (s : State) : State :=
  match placeFrom1 8 f with
  | some z => if index = s.lse.posture.code * 4 + s.lse.band.code then reevaluate z s else s
  | none => s

/-- WRITE FIELD on the scene table (R105). -/
def writeScene (f index : Nat) (v : Int) (s : State) : Answer × State :=
  match scenePut s.lse.scene f index v.toNat with
  | none => (badIndex, s)
  | some c =>
    decideWrite
      (firstRefusal
        [(!(if f ≤ 8 then within 0 100 v else within 1 100000 v), badValue), (9 ≤ f && !c.ordered, refused .table 0)]) v
      (fun t => sceneFollow f index (writeThrough .scene { t with lse.scene := c })) s

/-! ## Authority table (R153) -/

/-- The authority table with a field written; none for an index or a field the entry does not have, such as the configured
authority of a zone slot (log 16). -/
def authorityPut (t : AuthorityTable) (f index : Nat) (v : Int) : Option AuthorityTable :=
  match (place 20 index).map outputOf with
  | some (.pump i) =>
    match f with
    | 0 => some { t with pumps := upd t.pumps i fun e => { e with configured := (Authority.ofCode v).getD e.configured } }
    | 1 => some { t with pumps := upd t.pumps i fun e => { e with action := (FallbackAction.ofCode v).getD e.action } }
    | _ => some { t with pumps := upd t.pumps i fun e => { e with value := v.toNat } }
  | some (.zone z) =>
    match f with
    | 0 => none
    | 1 => some { t with zones := upd t.zones z fun e => { e with action := (FallbackAction.ofCode v).getD e.action } }
    | _ => some { t with zones := upd t.zones z fun e => { e with value := v.toNat } }
  | _ => none

/-- The range of an authority field (R153). -/
def authorityRange (f index : Nat) (v : Int) : Bool :=
  if f ≤ 1 then within 0 2 v else if index ≤ 5 then within 0 1 v else within 0 100 v

/-- WRITE FIELD on the authority table (R153). -/
def writeAuthority (f index : Nat) (v : Int) (s : State) : Answer × State :=
  match authorityPut s.cfl.authority f index v with
  | none => (if stormy s then refused .posture 0 else badIndex, s)
  | some a =>
    decideWrite (firstRefusal [(stormy s, refused .posture 0), (!authorityRange f index v, badValue)]) v
      (fun t =>
        let stored := writeThrough .authority { t with cfl.authority := a }
        if f ≤ 1 then recomputeAuthority stored else stored) s

/-! ## Rule table (R156) -/

/-- The range of a rule condition: a code below a bound, or 255 for ANY (R156, R196). -/
def conditionRange (v : Int) : Bool := within 0 4 v || v = 255

/-- The range of a rule field (R156). -/
def ruleRange (f : Nat) (v : Int) : Bool :=
  match f with
  | 0 => within 0 32 v
  | 1 => (RuleMatch.ofCode v).isSome
  | 2 => conditionRange v
  | 3 => conditionRange v
  | 4 => within 0 3 v
  | 5 => within 0 100 v
  | _ => within 0 1 v

/-- A rule with a field written. -/
def Rule.put (r : Rule) (f : Nat) (v : Int) : Rule :=
  match f with
  | 1 => { r with slots := (RuleMatch.ofCode v).getD r.slots }
  | 2 => { r with posture := Posture.ofCode v }
  | 3 => { r with tier := Tier.ofCode v }
  | 4 => { r with action := (RuleAction.ofCode v).getD r.action }
  | 5 => { r with value := v.toNat }
  | _ => { r with standing := v = 1 }

/-- The rule table with a field written; none for an index outside the table. -/
def rulePut (t : RuleTable) (f index : Nat) (v : Int) : Option RuleTable :=
  if f = 0 then (if index = 0 then some { t with count := v.toNat } else none)
  else (placeFrom1 32 index).map fun n => { t with entries := upd t.entries n fun r => r.put f v }

/-- WRITE FIELD on the rule table (R156). -/
def writeRules (f index : Nat) (v : Int) (s : State) : Answer × State :=
  match rulePut s.cfl.rules f index v with
  | none => (badIndex, s)
  | some r =>
    decideWrite (firstRefusal [(!ruleRange f v, badValue)]) v
      (fun t => writeThrough .rules { t with cfl.rules := r }) s

/-! ## WRITE FIELD (R177) -/

/-- The general tests of R170 on a write. -/
def writeRefusal (t f : Nat) : Option Answer :=
  match catalogueRefusal t f with
  | some a => some a
  | none => if fieldWritable t f then none else some (refused .malformed 4)

/-- The owning block of a table takes a write that passed the general tests. -/
def writeOwner (t f index : Nat) (v : Int) (s : State) : Answer × State :=
  match t with
  | 1 => writeSite f index v s
  | 2 => writeStage f index v s
  | 3 => writeThresholds f index v s
  | 4 => writeNodes f index v s
  | 5 => onPump index (writePump f v) s
  | 6 => writeLadder f index v s
  | 7 => writeLimits f index v s
  | 8 => onPortal index (writePortal f v) s
  | 9 => onZone index (writeZone f v) s
  | 10 => writeScene f index v s
  | 11 => writeAuthority f index v s
  | 12 => writeRules f index v s
  | _ => (refused .malformed 4, s)

/-- WRITE FIELD (R177). -/
def writeField (t f index : Nat) (v : Int) (s : State) : Answer × State :=
  match writeRefusal t f with
  | some a => (a, s)
  | none => writeOwner t f index v s

/-! ## A REQUEST cell (R197) -/

/-- The handling of a request by its number (R170, R197). SENSE COMPLETION, which names its own REPLY index, stands apart. -/
def handleRequest (c : Cell) : State → Answer × State :=
  let t := (auxHigh c).toNat
  let f := (auxLow c).toNat
  let index := c.index.toNat
  let v := cellValue c
  match c.selector.toNat with
  | 1 => statusRequest f
  | 2 => readOnly (readEstimates f)
  | 3 => readOnly (readLoad f)
  | 4 => readOnly (readField t f index)
  | 5 => writeField t f index v
  | 6 => readCounters f index
  | 7 => openEditRequest
  | 8 => closeEditRequest
  | 9 => abandonEditRequest
  | 11 => onPortal index homeGateRequest
  | 12 => onPortal index fun p s =>
      if v = 0 then moveOpenRequest p s else if v = 1 then moveCloseRequest p s else (badValue, s)
  | 13 => onZone index lampTestRequest
  | 14 => reopenRequest
  | 15 => closeRoadwayRequest
  | 16 => onPump index lockRequest
  | 17 => onPump index unlockRequest
  | 18 => onPump index clearFaultRequest
  | 19 => onPump index rotateRequest
  | 20 => clearUnknownRequest
  | 21 => programRequest f v
  | 22 => readOnly (readIdentity f)
  | 23 => resetRequest
  | _ => fun s => (refused .malformed 1, s)

/-- A REQUEST cell the LIF hands to the RQA (R141, R169). -/
def takeRequestCell (c : Cell) (s : State) : State :=
  if c.selector = 10 then senseRequest s else takeRequest c.selector.toNat c.index.toNat (handleRequest c) s

end Sys2Proof.Machine
end

