-- ==== Sys2Proof/Machine/Resets.lean ====
section
/-! DEFINITION. The three resets (R186, R188, R189): the table checks, the state after reset, and what the part does as it
leaves reset (R118, R168). -/

namespace Sys2Proof.Machine

/-- A table comes back as stored where its check word holds, else at its default (R186). -/
def checkedTable {α : Type} (ok : Bool) (stored default : α) : α := if ok then stored else default

/-- A node record after reset: its configuration kept, its run-time fields cleared (R122, R137). -/
def Node.atReset (n : Node) : Node :=
  { n with
    freshness := .never, staleTimer := none,
    channels := n.channels.map fun c =>
      { c with lastRaw := none, lastEng := none, lastFlags := none, outOfSpan := 0, latch := false } }

/-- The checks and the state after reset, before the part leaves it: each table is verified (R186), the commissioning values
are taken (R182), and every block takes the values of its own rule (R22, R36, R38, R80, R103, R118, R137, R150, R168, R188).
The queue of commands and the tape of choices are the model's own and stay. -/
def resetState (cause : ResetCause) (s : State) : State :=
  let ok := fun t : Table => s.checkOk[t.place]
  let store := checkedTable (ok .commissioning) s.rqa.store .default
  let site := checkedTable (ok .site) s.site .default
  let stage := checkedTable (ok .stage) s.sau.table .default
  let zones := checkedTable (ok .zones) s.lse.config zoneTableDefault
  let limits := checkedTable (ok .limits) s.lda.limits .default
  let inUse := store.stored
  { State.reset with
    pending := s.pending
    choices := s.choices
    site := site
    siu := { Siu.atReset with nodes := checkedTable (ok .nodes) (s.siu.nodes.map Node.atReset) [] }
    sau := { Sau.atReset with
             table := stage, vRoad := roadVolume stage, periodLength := site.period * site.dryMultiplier,
             periodTimer := some (site.period * site.dryMultiplier) }
    pev := { Pev.atReset with thresholds := checkedTable (ok .thresholds) s.pev.thresholds .default }
    pdx := { Pdx.atReset with
             config := checkedTable (ok .pumps) s.pdx.config (Vector.replicate 6 .default),
             ladder := checkedTable (ok .ladder) s.pdx.ladder .default,
             roster := (List.finRange 6).filter fun i => i.val < inUse.pumps }
    lda := { Lda.atReset with
             limits := limits, claims := [reserveClaim limits], allowance := (limits.mains : Int) - limits.reserve }
    psq := { Psq.atReset with config := checkedTable (ok .portals) s.psq.config (Vector.replicate 2 .default) }
    lse := { Lse.atReset with
             config := zones, scene := checkedTable (ok .scene) s.lse.scene .default,
             zones := Vector.replicate 8 .atReset }
    cfl := { Cfl.atReset with
             slots := Vector.replicate 20 .atReset,
             authority := checkedTable (ok .authority) s.cfl.authority .default,
             rules := checkedTable (ok .rules) s.cfl.rules .default }
    rqa := { Rqa.atReset with store := store, inUse := inUse, cause := cause, failed := each s.checkOk (!·) } }

/-- The presence readings after reset: CLEAR where the presence node is unassigned, else OCCUPIED (R103). -/
def resetPresence (s : State) : State :=
  { s with psq.portals := Vector.ofFn fun p : Fin 2 => Portal.atReset (if assigned (.presence p) s then .occupied else .clear) }

/-- Both transmitters send FILL (R150). -/
def resetTransmitters (s : State) : State := { s with lif.txA := fillCell s, lif.txB := fillCell s }

/-- A reset: the part stands with every block at its reset values and the slots at their nodes (R151, R154, R168). -/
def takeReset (cause : ResetCause) (s : State) : State :=
  deriveAuthorities (recordNodes (resetTransmitters (resetPresence (resetState cause s))))

/-- The part leaves reset: the LSE writes the aspects, the CFL tells every effective authority, and C_avail is handed to the
SAU (R80, R118, R168). -/
def leaveReset (s : State) : State :=
  postAll ((commandedSlots s).map .authority) (recomputeCAvail (keepAllAspects { s with running := true }))

/-- A reset taken by a part that goes on running. -/
def resetAndLeave (cause : ResetCause) (s : State) : State := leaveReset (takeReset cause s)

/-- A reset of a part that stays without supply (R188). -/
def resetAndHold (cause : ResetCause) (s : State) : State := { takeReset cause s with running := false }

/-- POWER_UP (R188): from no supply the part starts; at its reset input a running part resets and goes on, and a part held for
want of supply takes the reset and stays held. -/
def powerUp (fromNoSupply : Bool) (s : State) : State :=
  if fromNoSupply || s.running then resetAndLeave .powerUp s else resetAndHold .powerUp s

/-- SUPPLY (R188): taken while the part is running; it is held until the supply returns. -/
def supplyFalls (s : State) : State := if s.running then resetAndHold .supply s else s

/-- The supply returns: a held part leaves reset (R188). -/
def supplyReturns (s : State) : State := if s.running then s else leaveReset s

/-- The reset held is due: the REPLY of RESET PART is under transmission, and its completion takes the reset (R143, R189). -/
def resetDue (s : State) : Bool := s.rqa.heldReset && replyUnderWay s

/-- REQUESTED (R189): the completion of RESET PART's REPLY takes the reset that is held; without either, nothing happens. -/
def requestedReset (s : State) : State := if resetDue s then resetAndLeave .requested s else s

/-- The completion of port A's cell; the completion of RESET PART's REPLY takes the reset it held (R143, R189). -/
def portAComplete (s : State) : State := if resetDue s then resetAndLeave .requested s else portASent s

end Sys2Proof.Machine
end

