-- ==== Sys2Proof/Machine/Tasks.lean ====
section
/-! DEFINITION. The internal announcements of a handling: what each receiver does at one, and their taking one after another,
what an announcement raises before those behind it (log 2). -/

namespace Sys2Proof.Machine

/-- The owner of an assignment takes a delivery (R135). -/
def takeDelivery (a : Assignment) (d : Delivery) (s : State) : State :=
  match a with
  | .level => levelDelivery d s
  | .flowmeter => flowDelivery d s
  | .float => pevFloat d s
  | .depth1 => pevDepth 0 d s
  | .depth2 => pevDepth 1 d s
  | .luminance => luminanceDelivery d s
  | .supply => supplyDelivery d s
  | .starter i => starterDelivery i d s
  | .drive p => driveDelivery p d s
  | .presence p => presenceDelivery p d s
  | .signal _ => s
  | .lamp z => lampDelivery z d s

/-- A block takes a posture announcement (R34). -/
def takePosture (r : Receiver) (new : Posture) (cause : PostureCause) (s : State) : State :=
  match r with
  | .sau => sauPosture new s
  | .pdx => pdxPosture new s
  | .psq => psqPosture new cause s
  | .lse => lsePosture new s
  | .cfl => cflPosture new s

/-- The owner of a claim takes the report of a grant or a withdrawal (R72); the PDX makes a dispatch on each (R45). -/
def takeClaim (o : Owner) (granted : Bool) (s : State) : State :=
  match o with
  | .reserve => s
  | .gate p => if granted then gateGranted p s else gateWithdrawn p s
  | .floor z => if granted then zoneGranted z false s else zoneWithdrawn z false s
  | .pump i => post (.dispatch false) (if granted then pumpGranted i s else pumpWithdrawn i s)
  | .upper z => if granted then zoneGranted z true s else zoneWithdrawn z true s

/-- An announcement is taken. -/
def runTask (t : Task) (s : State) : State :=
  match t with
  | .request c => takeRequestCell c s
  | .command c => takeCommand c s
  | .forward c => offer .forwarded c s
  | .reply number index a => placeReply number index a s
  | .emit e index v hi lo => emit e index v hi lo s
  | .deliver a d => takeDelivery a d s
  | .deliverFloatPdx d => pdxFloat d s
  | .level l => pdxLevel l s
  | .completionPev a => pevCompletion a s
  | .completionPdx a => pdxCompletion a s
  | .startPeriod => startPeriod s
  | .pumpCount n => pevPumpCount n s
  | .dispatch recompute => dispatchOn recompute s
  | .posture r new _ cause => takePosture r new cause s
  | .claim o granted => takeClaim o granted s
  | .tier t => cflTier t s
  | .gate p g => gateTold p g s
  | .authority k => authorityTold k s
  | .reapply k => reapplySlot k s
  | .fallback k => fallbackSlot k s
  | .flush => flushOnLoss s
  | .tableReports => reportFailedTables s
  | .zone z => takeZone z s

/-- The kinds of announcement that reach their receiver in the order they were made (R34, R98, R24, R67, R72); 0 for the rest.
The reports of claims among them: a claim withdrawn by one walk and granted again by the next is reported withdrawn first. -/
def Task.kind : Task → Nat
  | .posture _ _ _ _ => 1
  | .pumpCount _ => 2
  | .gate _ _ => 3
  | .tier _ => 4
  | .claim _ _ => 5
  | _ => 0

/-- The block of whose handling a task is a part still to be done: the dispatch of the PDX (R45), the re-evaluations of the LSE
(R107), and what the CFL has to tell, re-apply, fall back and report (R154, R162, R163, R165, R166). The COMMAND that travels
with its notice as one delivery is a part of it too: it is judged under the authorities the notice gives (R142, R158). -/
def Task.partOf : Task → Option Receiver
  | .dispatch _ => some .pdx
  | .zone _ => some .lse
  | .emit _ _ _ _ _ => some .cfl
  | .authority _ => some .cfl
  | .reapply _ => some .cfl
  | .fallback _ => some .cfl
  | .flush => some .cfl
  | .tableReports => some .cfl
  | .command _ => some .cfl
  | _ => none

/-- The block at which a posture or tier announcement is an arrival of its own (R34, R163). -/
def Task.arrivesAt : Task → Option Receiver
  | .posture r _ _ _ => some r
  | .tier _ => some .cfl
  | _ => none

/-- `t` does not overtake `u`: both are of one ordered kind, or `t` is an arrival of its own at a block and `u` a part of that
block's present handling, which is one (R34, R142, R163, R165, R167; log 2). -/
def Task.behind (t u : Task) : Bool :=
  (t.kind ≠ 0 && t.kind = u.kind) || (t.arrivesAt.isSome && t.arrivesAt = u.partOf)

/-- A list cut behind its last task of those meant. -/
def cutBehind (p : Task → Bool) : List Task → List Task × List Task
  | [] => ([], [])
  | t :: ts =>
    if ts.any p then (t :: (cutBehind p ts).1, (cutBehind p ts).2)
    else if p t then ([t], ts)
    else ([], t :: ts)

/-- What an announcement raised is put before those that stood behind it, but none before one that it does not overtake
(log 2). -/
def putAhead : List Task → List Task → List Task
  | [], rest => rest
  | t :: ts, rest => (cutBehind t.behind rest).1 ++ t :: putAhead ts (cutBehind t.behind rest).2

/-- Up to `n` announcements are taken, what one raises before those behind it. -/
def drain : Nat → State → State
  | 0, s => s
  | n + 1, s =>
    match s.agenda with
    | [] => s
    | t :: rest =>
      let u := runTask t { s with agenda := [] }
      drain n { u with agenda := putAhead u.agenda rest }

/-- A handling is carried to its end (log 2). -/
def settle (s : State) : State := drain Config.maxDeliveries s

end Sys2Proof.Machine
end

