-- ==== Sys2Proof/Machine/Timers.lean ====
section
/-! DEFINITION. The passing of a second (log 6): the uptime rises and every running timer loses a second. -/

namespace Sys2Proof.Machine

/-- A running timer loses a second, down to 0. -/
def countDown (t : Option Nat) : Option Nat := t.map fun n => n - 1

/-- The descent timer loses a second while RUNNING (R28). -/
def Descent.countDown : Descent → Descent
  | .stopped => .stopped
  | .running n => .running (n - 1)
  | .paused n => .paused n

/-- The timers of a pump. -/
def Pump.countDown (p : Pump) : Pump :=
  { p with
    spinUp := Machine.countDown p.spinUp, stopConfirm := Machine.countDown p.stopConfirm,
    minRun := Machine.countDown p.minRun, rest := Machine.countDown p.rest, limit := Machine.countDown p.limit }

/-- The timers of a portal. -/
def Portal.countDown (g : Portal) : Portal :=
  { g with
    warning := Machine.countDown g.warning, clear := Machine.countDown g.clear,
    holdLong := Machine.countDown g.holdLong, progress := Machine.countDown g.progress,
    homing := Machine.countDown g.homing }

/-- The timers of a zone. -/
def Zone.countDown (z : Zone) : Zone :=
  { z with steadyTimer := Machine.countDown z.steadyTimer, testTimer := Machine.countDown z.testTimer }

/-- One second passes. A part held in reset counts nothing. -/
def second (s : State) : State :=
  if s.running then
    { s with
      uptime := s.uptime + 1,
      siu.nodes := s.siu.nodes.map fun n => { n with staleTimer := countDown n.staleTimer },
      sau.periodTimer := countDown s.sau.periodTimer,
      pev.descent := s.pev.descent.countDown,
      pdx.pumps := each s.pdx.pumps Pump.countDown,
      psq.portals := each s.psq.portals Portal.countDown,
      lse.zones := each s.lse.zones Zone.countDown,
      cfl.timer := countDown s.cfl.timer }
  else s

end Sys2Proof.Machine
end

