-- ==== Sys2Proof/Machine/Commands.lean ====
section
/-! DEFINITION. The meaning of every command of spec/opcode_table.json: each handles what reached the part and carries the
handling to its end. A part held in reset takes nothing but the resets and the return of its supply (R188). -/

namespace Sys2Proof.Machine

/-! ## Shapes -/

/-- A command whose handling is carried to its end (log 2). -/
def settled (s : State) : Host.Outcome State Fault Refusal := .next (settle s)

/-- A command that a running part handles; a part held in reset does nothing (R188, log 11). -/
def handled (f : State → State) (s : State) : Host.Outcome State Fault Refusal :=
  if s.running then .next (settle (f s)) else .next s

/-- A pump by its number 0-5; another number names no timer. -/
def forPump (n : Nat) (f : Fin 6 → State → State) (s : State) : State :=
  match place 6 n with
  | some i => f i s
  | none => s

/-- A portal by its number 1-2; another number names no timer. -/
def forPortal (n : Nat) (f : Fin 2 → State → State) (s : State) : State :=
  match placeFrom1 2 n with
  | some p => f p s
  | none => s

/-- A zone by its number 1-8; another number names no timer. -/
def forZone (n : Nat) (f : Fin 8 → State → State) (s : State) : State :=
  match placeFrom1 8 n with
  | some z => f z s
  | none => s

/-- A request by its number, its index byte and its handling (R169). -/
def request (number : Nat) (index : Byte) (handle : State → Answer × State) (s : State) :
    Host.Outcome State Fault Refusal :=
  handled (takeRequest number index.toNat handle) s

/-- WRITE FIELD on a table (R177). -/
def writeRequest (table : Nat) (field index : Byte) (value : Word) (s : State) : Host.Outcome State Fault Refusal :=
  request 5 index (writeField table field.toNat index.toNat value.toInt) s

/-! ## Cells -/

/-- PORT_A_ARRIVAL (R139, R141, R142). -/
def execPortAArrival (c : Cell) (s : State) : Host.Outcome State Fault Refusal :=
  handled (arriveA c) s

/-- PORT_B_ARRIVAL (R139, R140, R125). -/
def execPortBArrival (c : Cell) (s : State) : Host.Outcome State Fault Refusal :=
  handled (arriveB c) s

/-- SUPERVISORY_COMMAND (R158): the CFL takes the COMMAND. The notice of R142 belongs to the arrival. -/
def execSupervisoryCommand (c : Cell) (s : State) : Host.Outcome State Fault Refusal :=
  handled (takeCommand c) s

/-! ## Requests that read -/

/-- STATUS (R172). -/
def execStatus (page index : Byte) (s : State) : Host.Outcome State Fault Refusal :=
  request 1 index (statusRequest page.toNat) s

/-- READ_ESTIMATES (R173). -/
def execReadEstimates (field index : Byte) (s : State) : Host.Outcome State Fault Refusal :=
  request 2 index (readOnly (readEstimates field.toNat)) s

/-- READ_LOAD (R174). -/
def execReadLoad (field index : Byte) (s : State) : Host.Outcome State Fault Refusal :=
  request 3 index (readOnly (readLoad field.toNat)) s

/-- READ_FIELD (R175). -/
def execReadField (table field index : Byte) (s : State) : Host.Outcome State Fault Refusal :=
  request 4 index (readOnly (readField table.toNat field.toNat index.toNat)) s

/-- READ_COUNTERS (R176). -/
def execReadCounters (group index : Byte) (s : State) : Host.Outcome State Fault Refusal :=
  request 6 index (readCounters group.toNat index.toNat) s

/-! ## WRITE FIELD -/

/-- WRITE_FIELD (R177) on a table by its id. -/
def execWriteField (table field index : Byte) (value : Word) (s : State) : Host.Outcome State Fault Refusal :=
  writeRequest table.toNat field index value s

/-- WRITE_FIELD_SITE (R123). -/
def execWriteFieldSite (field index : Byte) (value : Word) (s : State) : Host.Outcome State Fault Refusal :=
  writeRequest 1 field index value s

/-- WRITE_FIELD_STAGE_TABLE (R4). -/
def execWriteFieldStageTable (field index : Byte) (value : Word) (s : State) : Host.Outcome State Fault Refusal :=
  writeRequest 2 field index value s

/-- WRITE_FIELD_POSTURE_THRESHOLDS (R23). -/
def execWriteFieldPostureThresholds (field index : Byte) (value : Word) (s : State) :
    Host.Outcome State Fault Refusal :=
  writeRequest 3 field index value s

/-- WRITE_FIELD_NODE_TABLE (R121, R122). -/
def execWriteFieldNodeTable (field index : Byte) (value : Word) (s : State) : Host.Outcome State Fault Refusal :=
  writeRequest 4 field index value s

/-- WRITE_FIELD_PUMP_TABLE (R37). -/
def execWriteFieldPumpTable (field index : Byte) (value : Word) (s : State) : Host.Outcome State Fault Refusal :=
  writeRequest 5 field index value s

/-- WRITE_FIELD_LEVEL_LADDER (R41). -/
def execWriteFieldLevelLadder (field index : Byte) (value : Word) (s : State) : Host.Outcome State Fault Refusal :=
  writeRequest 6 field index value s

/-- WRITE_FIELD_LOAD_LIMITS (R69). -/
def execWriteFieldLoadLimits (field index : Byte) (value : Word) (s : State) : Host.Outcome State Fault Refusal :=
  writeRequest 7 field index value s

/-- WRITE_FIELD_PORTAL_TABLE (R81). -/
def execWriteFieldPortalTable (field index : Byte) (value : Word) (s : State) : Host.Outcome State Fault Refusal :=
  writeRequest 8 field index value s

/-- WRITE_FIELD_ZONE_TABLE (R104). -/
def execWriteFieldZoneTable (field index : Byte) (value : Word) (s : State) : Host.Outcome State Fault Refusal :=
  writeRequest 9 field index value s

/-- WRITE_FIELD_SCENE_TABLE (R105). -/
def execWriteFieldSceneTable (field index : Byte) (value : Word) (s : State) : Host.Outcome State Fault Refusal :=
  writeRequest 10 field index value s

/-- WRITE_FIELD_AUTHORITY_TABLE (R153). -/
def execWriteFieldAuthorityTable (field index : Byte) (value : Word) (s : State) : Host.Outcome State Fault Refusal :=
  writeRequest 11 field index value s

/-- WRITE_FIELD_RULE_TABLE (R156). -/
def execWriteFieldRuleTable (field index : Byte) (value : Word) (s : State) : Host.Outcome State Fault Refusal :=
  writeRequest 12 field index value s

/-! ## The stage-table edit -/

/-- OPEN_EDIT (R3). -/
def execOpenEdit (index : Byte) (s : State) : Host.Outcome State Fault Refusal :=
  request 7 index openEditRequest s

/-- CLOSE_EDIT (R5). -/
def execCloseEdit (index : Byte) (s : State) : Host.Outcome State Fault Refusal :=
  request 8 index closeEditRequest s

/-- ABANDON_EDIT (R6). -/
def execAbandonEdit (index : Byte) (s : State) : Host.Outcome State Fault Refusal :=
  request 9 index abandonEditRequest s

/-! ## Completions and operations -/

/-- SENSE_COMPLETION (R102, R179). Its REPLY takes its index from the entry sensed, not from the request. -/
def execSenseCompletion (_index : Byte) (s : State) : Host.Outcome State Fault Refusal :=
  handled senseRequest s

/-- HOME_GATE (R100). -/
def execHomeGate (index : Byte) (s : State) : Host.Outcome State Fault Refusal :=
  request 11 index (onPortal index.toNat homeGateRequest) s

/-- MOVE_GATE_OPEN (R101). -/
def execMoveGateOpen (index : Byte) (s : State) : Host.Outcome State Fault Refusal :=
  request 12 index (onPortal index.toNat moveOpenRequest) s

/-- MOVE_GATE_CLOSE (R101). -/
def execMoveGateClose (index : Byte) (s : State) : Host.Outcome State Fault Refusal :=
  request 12 index (onPortal index.toNat moveCloseRequest) s

/-- LAMP_TEST (R115). -/
def execLampTest (index : Byte) (s : State) : Host.Outcome State Fault Refusal :=
  request 13 index (onZone index.toNat lampTestRequest) s

/-! ## Posture, pumps and unknown sources -/

/-- REOPEN (R33). -/
def execReopen (index : Byte) (s : State) : Host.Outcome State Fault Refusal :=
  request 14 index reopenRequest s

/-- CLOSE_ROADWAY (R32). -/
def execCloseRoadway (index : Byte) (s : State) : Host.Outcome State Fault Refusal :=
  request 15 index closeRoadwayRequest s

/-- LOCK_PUMP (R61). -/
def execLockPump (index : Byte) (s : State) : Host.Outcome State Fault Refusal :=
  request 16 index (onPump index.toNat lockRequest) s

/-- UNLOCK_PUMP (R62). -/
def execUnlockPump (index : Byte) (s : State) : Host.Outcome State Fault Refusal :=
  request 17 index (onPump index.toNat unlockRequest) s

/-- CLEAR_FAULT (R63). -/
def execClearFault (index : Byte) (s : State) : Host.Outcome State Fault Refusal :=
  request 18 index (onPump index.toNat clearFaultRequest) s

/-- ROTATE (R64). -/
def execRotate (index : Byte) (s : State) : Host.Outcome State Fault Refusal :=
  request 19 index (onPump index.toNat rotateRequest) s

/-- CLEAR_UNKNOWN (R133). -/
def execClearUnknown (index : Byte) (s : State) : Host.Outcome State Fault Refusal :=
  request 20 index clearUnknownRequest s

/-! ## Commissioning and resets -/

/-- PROGRAM_IDENTITY (R183). -/
def execProgramIdentity (field index : Byte) (value : Word) (s : State) : Host.Outcome State Fault Refusal :=
  request 21 index (programRequest field.toNat value.toInt) s

/-- READ_IDENTITY (R184). -/
def execReadIdentity (field index : Byte) (s : State) : Host.Outcome State Fault Refusal :=
  request 22 index (readOnly (readIdentity field.toNat)) s

/-- RESET_PART (R189). -/
def execResetPart (index : Byte) (s : State) : Host.Outcome State Fault Refusal :=
  request 23 index resetRequest s

/-- POWER_UP_RESET (R188). -/
def execPowerUpReset (fromNoSupply : Bool) (s : State) : Host.Outcome State Fault Refusal :=
  settled (powerUp fromNoSupply s)

/-- SUPPLY_RESET (R188). -/
def execSupplyReset (s : State) : Host.Outcome State Fault Refusal :=
  settled (supplyFalls s)

/-- REQUESTED_RESET (R189). -/
def execRequestedReset (s : State) : Host.Outcome State Fault Refusal :=
  handled requestedReset s

/-- SUPPLY_RETURN (R188). -/
def execSupplyReturn (s : State) : Host.Outcome State Fault Refusal :=
  settled (supplyReturns s)

/-! ## Expiries -/

/-- ACCOUNTING_PERIOD_EXPIRY (R10). -/
def execAccountingPeriodExpiry (s : State) : Host.Outcome State Fault Refusal :=
  handled periodEnds s

/-- DESCENT_TIMER_EXPIRY (R29). -/
def execDescentTimerExpiry (s : State) : Host.Outcome State Fault Refusal :=
  handled descentEnds s

/-- SPIN_UP_EXPIRY (R48). -/
def execSpinUpExpiry (pump : Nat) (s : State) : Host.Outcome State Fault Refusal :=
  handled (forPump pump spinUpEnds) s

/-- STOP_CONFIRM_EXPIRY (R50). -/
def execStopConfirmExpiry (pump : Nat) (s : State) : Host.Outcome State Fault Refusal :=
  handled (forPump pump stopConfirmEnds) s

/-- MINIMUM_RUN_EXPIRY (R49). -/
def execMinimumRunExpiry (pump : Nat) (s : State) : Host.Outcome State Fault Refusal :=
  handled (forPump pump minimumRunEnds) s

/-- REST_EXPIRY (R45). -/
def execRestExpiry (pump : Nat) (s : State) : Host.Outcome State Fault Refusal :=
  handled (forPump pump restEnds) s

/-- LIMIT_TIMER_EXPIRY (R40). -/
def execLimitTimerExpiry (pump : Nat) (s : State) : Host.Outcome State Fault Refusal :=
  handled (forPump pump limitEnds) s

/-- WARNING_EXPIRY (R91). -/
def execWarningExpiry (portal : Nat) (s : State) : Host.Outcome State Fault Refusal :=
  handled (forPortal portal warningEnds) s

/-- CLEAR_TIMER_EXPIRY (R93, R94). -/
def execClearTimerExpiry (portal : Nat) (s : State) : Host.Outcome State Fault Refusal :=
  handled (forPortal portal clearEnds) s

/-- HOLD_LONG_EXPIRY (R93). -/
def execHoldLongExpiry (portal : Nat) (s : State) : Host.Outcome State Fault Refusal :=
  handled (forPortal portal holdLongEnds) s

/-- PROGRESS_TIMER_EXPIRY (R92, R96). -/
def execProgressTimerExpiry (portal : Nat) (s : State) : Host.Outcome State Fault Refusal :=
  handled (forPortal portal progressEnds) s

/-- HOMING_TIMER_EXPIRY (R89). -/
def execHomingTimerExpiry (portal : Nat) (s : State) : Host.Outcome State Fault Refusal :=
  handled (forPortal portal homingEnds) s

/-- STEADY_TIMER_EXPIRY (R114). -/
def execSteadyTimerExpiry (zone : Nat) (s : State) : Host.Outcome State Fault Refusal :=
  handled (forZone zone steadyEnds) s

/-- LAMP_TEST_TIMER_EXPIRY (R116). -/
def execLampTestTimerExpiry (zone : Nat) (s : State) : Host.Outcome State Fault Refusal :=
  handled (forZone zone testTimerEnds) s

/-- STALE_TIMER_EXPIRY (R126). -/
def execStaleTimerExpiry (address : Nat) (s : State) : Host.Outcome State Fault Refusal :=
  handled (staleEnds address) s

/-- SUPERVISION_TIMER_EXPIRY (R165). -/
def execSupervisionTimerExpiry (s : State) : Host.Outcome State Fault Refusal :=
  handled supervisionEnds s

/-! ## Transmitters -/

/-- PORT_A_TRANSMIT_COMPLETE (R143, R169, R189). -/
def execPortATransmitComplete (s : State) : Host.Outcome State Fault Refusal :=
  handled portAComplete s

/-- PORT_B_TRANSMIT_COMPLETE (R147, R148). -/
def execPortBTransmitComplete (s : State) : Host.Outcome State Fault Refusal :=
  handled portBSent s

end Sys2Proof.Machine
end

