-- ==== Sys2Proof/Machine/Dispatch.lean ====
section
/-! DEFINITION. One arm for each command. -/

namespace Sys2Proof.Machine

def exec (i : Instr) (s : State) : Host.Outcome State Fault Refusal :=
  match i with
  | .portAArrival c => Sys2Proof.Machine.execPortAArrival c s
  | .portBArrival c => Sys2Proof.Machine.execPortBArrival c s
  | .supervisoryCommand c => Sys2Proof.Machine.execSupervisoryCommand c s
  | .status page index => Sys2Proof.Machine.execStatus page index s
  | .readEstimates field index => Sys2Proof.Machine.execReadEstimates field index s
  | .readLoad field index => Sys2Proof.Machine.execReadLoad field index s
  | .readField table field index => Sys2Proof.Machine.execReadField table field index s
  | .writeField table field index value => Sys2Proof.Machine.execWriteField table field index value s
  | .writeFieldSite field index value => Sys2Proof.Machine.execWriteFieldSite field index value s
  | .writeFieldStageTable field index value => Sys2Proof.Machine.execWriteFieldStageTable field index value s
  | .writeFieldPostureThresholds field index value => Sys2Proof.Machine.execWriteFieldPostureThresholds field index value s
  | .writeFieldNodeTable field index value => Sys2Proof.Machine.execWriteFieldNodeTable field index value s
  | .writeFieldPumpTable field index value => Sys2Proof.Machine.execWriteFieldPumpTable field index value s
  | .writeFieldLevelLadder field index value => Sys2Proof.Machine.execWriteFieldLevelLadder field index value s
  | .writeFieldLoadLimits field index value => Sys2Proof.Machine.execWriteFieldLoadLimits field index value s
  | .writeFieldPortalTable field index value => Sys2Proof.Machine.execWriteFieldPortalTable field index value s
  | .writeFieldZoneTable field index value => Sys2Proof.Machine.execWriteFieldZoneTable field index value s
  | .writeFieldSceneTable field index value => Sys2Proof.Machine.execWriteFieldSceneTable field index value s
  | .writeFieldAuthorityTable field index value => Sys2Proof.Machine.execWriteFieldAuthorityTable field index value s
  | .writeFieldRuleTable field index value => Sys2Proof.Machine.execWriteFieldRuleTable field index value s
  | .readCounters group index => Sys2Proof.Machine.execReadCounters group index s
  | .openEdit index => Sys2Proof.Machine.execOpenEdit index s
  | .closeEdit index => Sys2Proof.Machine.execCloseEdit index s
  | .abandonEdit index => Sys2Proof.Machine.execAbandonEdit index s
  | .senseCompletion index => Sys2Proof.Machine.execSenseCompletion index s
  | .homeGate index => Sys2Proof.Machine.execHomeGate index s
  | .moveGateOpen index => Sys2Proof.Machine.execMoveGateOpen index s
  | .moveGateClose index => Sys2Proof.Machine.execMoveGateClose index s
  | .lampTest index => Sys2Proof.Machine.execLampTest index s
  | .reopen index => Sys2Proof.Machine.execReopen index s
  | .closeRoadway index => Sys2Proof.Machine.execCloseRoadway index s
  | .lockPump index => Sys2Proof.Machine.execLockPump index s
  | .unlockPump index => Sys2Proof.Machine.execUnlockPump index s
  | .clearFault index => Sys2Proof.Machine.execClearFault index s
  | .rotate index => Sys2Proof.Machine.execRotate index s
  | .clearUnknown index => Sys2Proof.Machine.execClearUnknown index s
  | .programIdentity field index value => Sys2Proof.Machine.execProgramIdentity field index value s
  | .readIdentity field index => Sys2Proof.Machine.execReadIdentity field index s
  | .resetPart index => Sys2Proof.Machine.execResetPart index s
  | .powerUpReset fromNoSupply => Sys2Proof.Machine.execPowerUpReset fromNoSupply s
  | .supplyReset => Sys2Proof.Machine.execSupplyReset s
  | .requestedReset => Sys2Proof.Machine.execRequestedReset s
  | .accountingPeriodExpiry => Sys2Proof.Machine.execAccountingPeriodExpiry s
  | .descentTimerExpiry => Sys2Proof.Machine.execDescentTimerExpiry s
  | .spinUpExpiry pump => Sys2Proof.Machine.execSpinUpExpiry pump s
  | .stopConfirmExpiry pump => Sys2Proof.Machine.execStopConfirmExpiry pump s
  | .minimumRunExpiry pump => Sys2Proof.Machine.execMinimumRunExpiry pump s
  | .restExpiry pump => Sys2Proof.Machine.execRestExpiry pump s
  | .limitTimerExpiry pump => Sys2Proof.Machine.execLimitTimerExpiry pump s
  | .warningExpiry portal => Sys2Proof.Machine.execWarningExpiry portal s
  | .clearTimerExpiry portal => Sys2Proof.Machine.execClearTimerExpiry portal s
  | .holdLongExpiry portal => Sys2Proof.Machine.execHoldLongExpiry portal s
  | .progressTimerExpiry portal => Sys2Proof.Machine.execProgressTimerExpiry portal s
  | .homingTimerExpiry portal => Sys2Proof.Machine.execHomingTimerExpiry portal s
  | .steadyTimerExpiry zone => Sys2Proof.Machine.execSteadyTimerExpiry zone s
  | .lampTestTimerExpiry zone => Sys2Proof.Machine.execLampTestTimerExpiry zone s
  | .staleTimerExpiry address => Sys2Proof.Machine.execStaleTimerExpiry address s
  | .supervisionTimerExpiry => Sys2Proof.Machine.execSupervisionTimerExpiry s
  | .portATransmitComplete => Sys2Proof.Machine.execPortATransmitComplete s
  | .portBTransmitComplete => Sys2Proof.Machine.execPortBTransmitComplete s
  | .supplyReturn => Sys2Proof.Machine.execSupplyReturn s

end Sys2Proof.Machine
end

