-- ==== Sys2Proof/Machine/Step.lean ====
section
/-! DEFINITION. One step: the command at the front of the queue is taken; on an empty queue a second passes (log 6). -/

namespace Sys2Proof.Machine

/-- The step of the part. -/
def step (s : State) : Host.Outcome State Fault Refusal :=
  match s.pending with
  | [] => .next (second s)
  | c :: rest => exec c { s with pending := rest }

/-- The state with the command a word spells at the front of its queue; a word that spells none changes nothing (log 1). -/
def State.withFetchWord (s : State) (nbits w : Nat) : State :=
  match decodeTableWord nbits w with
  | some c => { s with pending := c :: s.pending }
  | none => s

end Sys2Proof.Machine
end

