-- ==== Sys2Proof/Safety.lean ====
section
/-! DEFINITION. What a safe part is: when a command finds the part between handlings, and the conditions that every step must
keep. Each is decidable, so that a state can be tested against it. -/

namespace Sys2Proof.Machine

/-! ## Between handlings -/

/-- The part runs, and no announcement of an earlier handling waits (log 2). -/
abbrev Quiet (s : State) : Prop := s.running = true ∧ s.agenda = []

/-- The part runs, no announcement waits, and the reply slot is free (R169). -/
abbrev Ready (s : State) : Prop := s.running = true ∧ s.agenda = [] ∧ s.rqa.replySlot = false

/-! ## Capacities (R143, R146, R132; 00_scope.md, "Counters") -/

/-- The saturating counters of the part, but those of the channels. -/
def counters (s : State) : List Nat :=
  [s.lif.checkErrorsA, s.lif.checkErrorsB, s.lif.malformedA, s.lif.malformedB, s.lif.foreign, s.lif.misdirected,
    s.lif.forwardDrops, s.lif.eventDrops, s.lif.passDrops, s.siu.roleMismatch, s.siu.unknownSource, s.rqa.accepted,
    s.rqa.refused, s.rqa.overrun]

/-- No queue, set or counter is over its capacity. -/
abbrev WithinCapacity (s : State) : Prop :=
  s.lif.queue.length ≤ 24 ∧ s.lif.fifo.length ≤ 8 ∧ s.siu.unknown.length ≤ 8 ∧ (∀ n ∈ counters s, n ≤ 65535) ∧
    ∀ n ∈ s.siu.nodes, ∀ c ∈ n.channels, c.outOfSpan ≤ 65535

/-! ## The load account (R69, R70, R72) -/

/-- The granted claims are within the limit of the tier, and the signal reserve is always granted. -/
abbrev LoadSound (s : State) : Prop :=
  s.lda.limits.reserveOk = true ∧ grantedSum s.lda.claims ≤ tierLimit s ∧
    claimOf .reserve s.lda.claims = some { owner := .reserve, amount := s.lda.limits.reserve, granted := true }

/-! ## The pumps (R39, R53) -/

/-- Every installed pump is in exactly one of the roster, the fault set and the lockout set, and the roster holds nothing
else (R39); a pump in the roster is not FAULTED, and a pump in the fault set is. -/
abbrev RosterSound (s : State) : Prop :=
  s.pdx.roster.Nodup ∧ (∀ i ∈ s.pdx.roster, pumpInstalled i s = true ∧ s.pdx.pumps[i].state ≠ .faulted) ∧
    (∀ i : Fin 6, s.pdx.faultSet[i] = true → s.pdx.pumps[i].state = .faulted) ∧
    ∀ i : Fin 6, bit (s.pdx.roster.contains i) + bit s.pdx.faultSet[i] + bit s.pdx.lockoutSet[i] = bit (pumpInstalled i s)

/-- At most one pump is STARTING, and it is installed (R53). -/
abbrev OneStarting (s : State) : Prop :=
  (∀ i : Fin 6, s.pdx.pumps[i].state = .starting → pumpInstalled i s = true) ∧
  ∀ i j : Fin 6, s.pdx.pumps[i].state = .starting → s.pdx.pumps[j].state = .starting → i = j

/-! ## The gates (R92, R99) -/

/-- No gate closes while its sweep is occupied (R92). -/
abbrev SweepSafe (s : State) : Prop := ∀ p : Fin 2, s.psq.portals[p].state = .closing → s.psq.portals[p].presence = .clear

/-- The operations in flight: one for each portal whose record holds one, one for each zone in test (R99). -/
def opsInFlight (s : State) : Nat :=
  ((List.finRange 2).filter fun p => s.psq.portals[p].op.isSome).length +
    ((List.finRange 8).filter fun z => s.lse.zones[z].test).length

/-- The completion list keeps a slot for every operation in flight, and never holds more than eight (R99). -/
abbrev OperationsSound (s : State) : Prop :=
  s.psq.inFlight = opsInFlight s ∧ s.psq.completions.length + s.psq.inFlight ≤ 8

/-! ## The output image (R113, R151, R152) -/

/-- The values a slot is ever written with: a pump 0 or 1, a beacon or a stop lamp an aspect, a zone a level (R113, R159). -/
def slotValueOk (k : Fin 20) (v : Int) : Bool :=
  match outputOf k with
  | .pump _ => v = 0 || v = 1
  | .gate _ => true
  | .beacon _ => 0 ≤ v && v ≤ 2
  | .stopLamp _ => 0 ≤ v && v ≤ 2
  | .zone _ => 0 ≤ v && v ≤ 100

/-- A slot that holds a target holds a source and the class of that target; a slot that holds none holds neither, and is not
pending (R152, R168). -/
def slotSound (k : Fin 20) (e : Slot) : Bool :=
  match e.target with
  | some v => e.source.isSome && e.cls = some (slotClass k v) && slotValueOk k v
  | none => !e.pending && e.source.isNone && e.cls.isNone

/-- The levels the tables may hand to a slot are in their ranges (R105, R153, R156). -/
abbrev LevelsInRange (s : State) : Prop :=
  (∀ (r : Fin 20) (z : Fin 8), s.lse.scene.levels[r][z] ≤ 100) ∧ (∀ n : Fin 32, s.cfl.rules.entries[n].value ≤ 100) ∧
    (∀ i : Fin 6, s.cfl.authority.pumps[i].value ≤ 1) ∧ (∀ z : Fin 8, s.cfl.authority.zones[z].value ≤ 100) ∧
    ∀ z : Fin 8, s.lse.zones[z].desired ≤ 100 ∧ s.lse.zones[z].output ≤ 100

/-- Every slot is sound, and so is everything it may be written from. -/
abbrev ImageSound (s : State) : Prop := LevelsInRange s ∧ ∀ k : Fin 20, slotSound k s.cfl.slots[k] = true

/-- The signals are under the part's authority, and while the part runs every installed portal's signals show the aspects of
its gate and the posture: among them, the stop lamp is off only over an OPEN gate (R113). -/
abbrev SignalsSound (s : State) : Prop :=
  ∀ p : Fin 2, s.cfl.slots[beaconSlot p].effective = .part ∧ s.cfl.slots[stopSlot p].effective = .part ∧
    (s.running = true → portalInstalled p s = true →
      s.cfl.slots[beaconSlot p].target = some (portalAspects p s).1 ∧
        s.cfl.slots[stopSlot p].target = some (portalAspects p s).2)

/-! ## The Node Table (R119, R121, R132) -/

/-- A record has an address 1-59 and no fewer channels than its role's minimum nor more than eight. -/
def nodeSound (n : Node) : Bool :=
  1 ≤ n.address && n.address ≤ 59 && n.role.minimumCount ≤ n.channels.length && n.channels.length ≤ 8

/-- At most 40 records in ascending order of address with at most 128 channels; the unknown-address set names at most once
addresses 1-59 that have no record. -/
abbrev NodesSound (s : State) : Prop :=
  s.siu.nodes.Pairwise (fun m n => m.address < n.address) ∧ s.siu.nodes.length ≤ 40 ∧ channelTotal s ≤ 128 ∧
    (∀ n ∈ s.siu.nodes, nodeSound n = true) ∧ s.siu.unknown.Nodup ∧
    ∀ a ∈ s.siu.unknown, 1 ≤ a ∧ a ≤ 59 ∧ findNode a s = none

/-! ## The starts of a pump (R40) -/

/-- No starts list holds more starts of the last 3600 s than the pump's start limit, and none lies ahead of the uptime. -/
abbrev StartsSound (s : State) : Prop :=
  ∀ i : Fin 6, (pruned i s).length ≤ s.pdx.config[i].startLimit ∧
    s.pdx.pumps[i].starts.all (fun t => t.toNat ≤ s.uptime.toNat) = true

/-! ## The estimates and the descent (R12, R16, R31) -/

/-- The time-to-roadway is as R16 gives it for the headroom H and the net rise N beside it: 0 where H is not above 0, 65535 where
the level does not rise, else H / N rounded down and held to 1-65534. No outflow is negative (R12). -/
abbrev estimatesOk (e : Estimates) : Prop :=
  (e.headroom ≤ 0 → e.time = 0) ∧ (0 < e.headroom → e.netRise ≤ 0 → e.time = 65535) ∧
    (0 < e.headroom → 0 < e.netRise → e.time = max 1 (min 65534 (Int.fdiv e.headroom e.netRise))) ∧ 0 ≤ e.outflow

/-- The estimates held, if any, are as R12 and R16 give. -/
abbrev EstimatesSound (s : State) : Prop := ∀ e ∈ s.sau.est, estimatesOk e

/-- While the posture is CLOSED, the descent timer is STOPPED (R31). -/
abbrev DescentSound (s : State) : Prop := s.pev.posture = .closed → s.pev.descent = .stopped

/-! ## The tables and the commands that reset -/

/-- What the persisted tables hold (R185), without the run-time fields of the Node Table. -/
structure Tables where
  site : Site
  stage : StageTable
  thresholds : Thresholds
  nodes : List Node
  pumps : Vector PumpConfig 6
  ladder : Ladder
  limits : Limits
  portals : Vector PortalConfig 2
  zones : Vector ZoneConfig 8
  scene : Scene
  authority : AuthorityTable
  rules : RuleTable
  store : Store
  deriving DecidableEq, Repr

/-- The persisted tables of a state. -/
def State.tables (s : State) : Tables :=
  { site := s.site, stage := s.sau.table, thresholds := s.pev.thresholds, nodes := s.siu.nodes, pumps := s.pdx.config,
    ladder := s.pdx.ladder, limits := s.lda.limits, portals := s.psq.config, zones := s.lse.config, scene := s.lse.scene,
    authority := s.cfl.authority, rules := s.cfl.rules, store := s.rqa.store }

/-- The tables a reset leaves: each as stored where its check word holds, else at its default (R186), the run-time fields of the
Node Table cleared (R137). -/
def resetTables (s : State) : Tables :=
  { site := checkedTable s.checkOk[Table.site.place] s.site .default
    stage := checkedTable s.checkOk[Table.stage.place] s.sau.table .default
    thresholds := checkedTable s.checkOk[Table.thresholds.place] s.pev.thresholds .default
    nodes := checkedTable s.checkOk[Table.nodes.place] (s.siu.nodes.map Node.atReset) []
    pumps := checkedTable s.checkOk[Table.pumps.place] s.pdx.config (Vector.replicate 6 .default)
    ladder := checkedTable s.checkOk[Table.ladder.place] s.pdx.ladder .default
    limits := checkedTable s.checkOk[Table.limits.place] s.lda.limits .default
    portals := checkedTable s.checkOk[Table.portals.place] s.psq.config (Vector.replicate 2 .default)
    zones := checkedTable s.checkOk[Table.zones.place] s.lse.config zoneTableDefault
    scene := checkedTable s.checkOk[Table.scene.place] s.lse.scene .default
    authority := checkedTable s.checkOk[Table.authority.place] s.cfl.authority .default
    rules := checkedTable s.checkOk[Table.rules.place] s.cfl.rules .default
    store := checkedTable s.checkOk[Table.commissioning.place] s.rqa.store .default }

/-- A command that may reset the part: the four rows of the resets, and the completion that takes a held reset (R188, R189). -/
def mayReset : Instr → Bool
  | .powerUpReset _ => true
  | .supplyReset => true
  | .requestedReset => true
  | .supplyReturn => true
  | .portATransmitComplete => true
  | _ => false

/-- What a reset of a cause leaves at the reset values or takes from the store, whatever the blocks then do as the part leaves
reset: the tables whose check word holds come back as stored and the others at their defaults, with their failures kept (R186);
the values in use are taken (R182); the rest is as R22, R119, R137, R168 and R188 give. -/
abbrev ResetBy (cause : ResetCause) (s t : State) : Prop :=
  t.tables = resetTables s ∧ t.checkOk = Vector.replicate 13 true ∧ t.rqa.failed = each s.checkOk (!·) ∧
    t.rqa.inUse = (resetTables s).store.stored ∧ t.rqa.cause = cause ∧ t.rqa.heldReset = false ∧ t.uptime = 0 ∧
    t.sau.est = none ∧ t.siu.unknown = [] ∧ t.pev.forced = false ∧ t.pdx.lockoutSet = Vector.replicate 6 false ∧
    t.cfl.supervision = .lost ∧ t.cfl.timer = none ∧ t.cfl.firstPresence = false ∧ t.pending = s.pending

/-- What a Node Table write gives a record, without what cells and timers leave in it: its address, role and stale time, and of
each channel the scaling and the watch code (R119). -/
def Node.configuration (n : Node) : Nat × Role × Nat × List (Option Scaling × WatchCode) :=
  (n.address, n.role, n.staleTime, n.channels.map fun c => (c.scaling, c.watch))

/-! ## The walk order (R70, R71) -/

/-- The place of an owner within its band (R70): the portal number; the zone number; for pumps roster order, then the pumps not in
the roster by index; for upper claims the shed priority, equal priorities by zone number. -/
def bandRank (s : State) : Owner → Nat
  | .reserve => 0
  | .gate p => p.val
  | .floor z => z.val
  | .pump i => if i ∈ s.pdx.roster then s.pdx.roster.idxOf i else 6 + i.val
  | .upper z => s.lse.config[z].shedPriority * 8 + z.val

/-- A claim stands before another in the walk order (R71): in an earlier band; in the same band where it was GRANTED and the
other was not; and else by the order of the band. -/
abbrev WalksBefore (s : State) (c d : Claim) : Prop :=
  c.owner.band < d.owner.band ∨ (c.owner.band = d.owner.band ∧
    ((c.granted = true ∧ d.granted = false) ∨ (c.granted = d.granted ∧ bandRank s c.owner < bandRank s d.owner)))

/-- The granted claims are the head of the walk order (R72): no claim waits in a band before that of a granted one. -/
abbrev GrantedHead (s : State) : Prop :=
  ∀ c ∈ s.lda.claims, ∀ d ∈ s.lda.claims, c.granted = false → d.granted = true → d.owner.band ≤ c.owner.band

/-- The pump allowance and C_avail are as R78 gives them, and the SAU holds that C_avail: the rated flows of the available pumps,
from the roster's head up to the first whose power takes the running power over the allowance. -/
abbrev CapacityHeld (s : State) : Prop :=
  let available := s.pdx.roster.filter fun i => partHas (pumpSlot i) s &&
    (s.pdx.pumps[i].state = .idle || s.pdx.pumps[i].state = .starting || s.pdx.pumps[i].state = .running)
  let power : List (Fin 6) → Int := fun is => (is.map fun i => (s.pdx.config[i].ratedPower : Int)).sum
  s.lda.allowance =
    (s.lda.limits.ofTier s.lda.tier : Int) - ((s.lda.claims.filter fun c => c.granted && c.owner.band ≤ 3).map (·.amount)).sum ∧
  s.sau.cAvail = s.lda.cAvail ∧
  ∀ m ∈ List.range (available.length + 1), power (available.take m) ≤ s.lda.allowance →
    (∀ i ∈ (available.drop m).head?, s.lda.allowance < power (available.take m) + s.pdx.config[i].ratedPower) →
    s.lda.cAvail = ((available.take m).map fun i => (s.pdx.config[i].ratedFlow : Int)).sum

/-- What a walk over a claim list leaves (R72, R78). The claims stand in walk order, the longest prefix that fits the limit GRANTED
and every later one WAITING. Each withdrawal offers SHED, and each grant and withdrawal of another owner than the asker is reported,
in walk order. The allowance and C_avail follow, and nothing else moves. -/
abbrev WalkLeaves (asker : Option Owner) (cs : List Claim) (s t : State) : Prop :=
  let order := walkOrder s cs
  let n := (t.lda.claims.filter (·.granted)).length
  let sum := ((order.take n).map (·.amount)).sum
  let withdrawn := (order.drop n).filter (·.granted)
  let other : Owner → Bool := fun o => asker.all fun a => !a.sameLoad o
  t.lda.claims = (order.take n).map (fun c => { c with granted := true }) ++
    (order.drop n).map (fun c => { c with granted := false }) ∧
  sum ≤ s.lda.limits.ofTier s.lda.tier ∧
  (∀ c ∈ (order.drop n).head?, s.lda.limits.ofTier s.lda.tier < sum + c.amount) ∧
  t.lif = (withdrawn.foldl (fun u c => emit .shed c.owner.index c.owner.band c.owner.kindCode s.lda.tier.code u) s).lif ∧
  t.agenda.take s.agenda.length = s.agenda ∧
  ((t.agenda.drop s.agenda.length).filter fun k => match k with
    | .claim o _ => other o
    | _ => true) =
    (((order.take n).filter fun c => !c.granted && other c.owner).map fun c => Task.claim c.owner true) ++
      ((withdrawn.filter fun c => other c.owner).map fun c => Task.claim c.owner false) ∧
  CapacityHeld t ∧
  t = { s with
    lda.claims := t.lda.claims, lda.allowance := t.lda.allowance, lda.cAvail := t.lda.cAvail, sau.cAvail := t.sau.cAvail,
    lif := t.lif, agenda := t.agenda }

/-! ## What the pump and gate rules ask and announce -/

/-- R53's conditions on a candidate for a start, its starts list pruned to the last 3600 s (R40). -/
abbrev Startable (i : Fin 6) (s : State) : Prop :=
  partHas (pumpSlot i) s = true ∧ s.pdx.pumps[i].state = .idle ∧ s.pdx.pumps[i].fresh = .fresh ∧
    (s.pdx.pumps[i].lastStop.all fun t => s.pdx.config[i].minRest ≤ (s.uptime - t).toNat) = true ∧
    (s.pdx.pumps[i].starts.filter fun t => (s.uptime - t).toNat < 3600).length < s.pdx.config[i].startLimit

/-- The engaged pump that entered RUNNING last; among equal run-since uptimes the one nearest the roster tail (R55). -/
abbrev RanLast (i : Fin 6) (s : State) : Prop :=
  pumpEngaged i s = true ∧ s.pdx.pumps[i].state = .running ∧
    ∀ j : Fin 6, pumpEngaged j s = true → s.pdx.pumps[j].state = .running →
      (s.pdx.pumps[j].runSince.getD 0).toNat < (s.pdx.pumps[i].runSince.getD 0).toNat ∨
      ((s.pdx.pumps[j].runSince.getD 0).toNat = (s.pdx.pumps[i].runSince.getD 0).toNat ∧
        s.pdx.roster.idxOf j ≤ s.pdx.roster.idxOf i)

/-- What every change of a pump's state brings (R46, R78): PUMP_STATE with the state before it and the cause, C_avail handed anew,
the number of pumps up told to the PEV, and a dispatch after demand is recomputed. -/
def pumpAnnounced (i : Fin 6) (prev : PumpState) (cause : PumpCause) (s : State) : State :=
  { recomputeCAvail (emit .pumpState i.val s.pdx.pumps[i].state.code prev.code cause.code s) with
    agenda := s.agenda ++ [.pumpCount ((List.finRange 6).filter fun j => pumpInstalled j s && s.pdx.pumps[j].up).length,
      .dispatch true] }

/-- What entering FAULTED does to a pump (R51): every timer of it is stopped, a pump in the roster moves to the fault set, the stop
target is written but for STOP_FAIL, the claim is released unless the last report showed the pump running, and PUMP_FAULT stands
ahead of PUMP_STATE. -/
def faultedPump (i : Fin 6) (reason : PumpFault) (running : Bool) (s : State) : State :=
  let out : State := { s with
    pdx.pumps := s.pdx.pumps.set i { s.pdx.pumps[i] with
      state := .faulted, fault := some reason, runSince := none, stopCause := none, powerWait := false, spinUp := none,
      stopConfirm := none, minRun := none, rest := none, limit := none }
    pdx.roster := s.pdx.roster.filter (· ≠ i)
    pdx.faultSet := if i ∈ s.pdx.roster then s.pdx.faultSet.set i true else s.pdx.faultSet }
  let written := if reason = .stopFail then out else engineWrite (pumpSlot i) 0 out
  pumpAnnounced i s.pdx.pumps[i].state .fault <| emit .pumpFault i.val reason.code 0 0 <|
    if running then written else release (.pump i) written

/-- What every change of a gate's state brings (R98): GATE_STATE with the state before it, the position and the cause, and the new
state told to the LSE and the CFL. -/
def gateAnnounced (p : Fin 2) (new : GateState) (cause : GateCause) (s : State) : State :=
  { emit .gateState (p.val + 1) (s.psq.portals[p].position.getD (-2147483648)) new.code
      (s.psq.portals[p].state.code * 16 + cause.code) s with
    psq.portals := s.psq.portals.set p { s.psq.portals[p] with state := new }
    agenda := s.agenda ++ [.gate p new] }

/-- The completion list after the operation in flight on a gate, if any, ended with an outcome and a detail (R99). -/
def entriesAfter (p : Fin 2) (o : OpOutcome) (detail : Option Int) (s : State) : List Completion :=
  s.psq.completions ++ (s.psq.portals[p].op.toList.map fun op =>
    { op := op, target := p.val + 1, outcome := o, detail := detail, uptime := s.uptime })

/-- What entering FAULT leaves of a gate (R97): the reason, every timer stopped, no target, no claim, the operation in flight ended
EQUIPMENT, and a stop target, the value of the last report, in its slot; the position and closed-by stay. The new state is told
last. -/
abbrev GateFaulted (p : Fin 2) (reason : GateFault) (s t : State) : Prop :=
  t.psq.portals[p] = { s.psq.portals[p] with
    state := .fault, fault := some reason, target := none, powerWait := false, warned := false, op := none,
    warning := none, clear := none, holdLong := none, progress := none, homing := none } ∧
  (∀ q : Fin 2, q ≠ p → t.psq.portals[q] = s.psq.portals[q]) ∧ holdsClaim (.gate p) t = false ∧
  t.psq.completions = entriesAfter p .equipment s.psq.portals[p].position s ∧
  t.agenda.getLast? = some (.gate p .fault) ∧ t.tables = s.tables ∧ t.pdx = s.pdx ∧
  ∀ v ∈ s.psq.portals[p].reportValue, partHas (gateSlot p) s = true → portalInstalled p s = true →
    t.cfl.slots[gateSlot p] = { s.cfl.slots[gateSlot p] with
      target := some v, pending := true, source := some .engine, cls := some .safety }

/-! ## The rows a cell stands for -/

/-- The row of the request reference a REQUEST cell stands for (R170, R195, R197): its selector names the request, its index byte
and the two bytes of its aux the operands. MOVE GATE is two rows, by its value. -/
def requestRow (c : Cell) : Option Instr :=
  match c.selector.toNat with
  | 1 => some (.status (auxLow c) c.index)
  | 2 => some (.readEstimates (auxLow c) c.index)
  | 3 => some (.readLoad (auxLow c) c.index)
  | 4 => some (.readField (auxHigh c) (auxLow c) c.index)
  | 5 => some (.writeField (auxHigh c) (auxLow c) c.index c.value)
  | 6 => some (.readCounters (auxLow c) c.index)
  | 7 => some (.openEdit c.index)
  | 8 => some (.closeEdit c.index)
  | 9 => some (.abandonEdit c.index)
  | 10 => some (.senseCompletion c.index)
  | 11 => some (.homeGate c.index)
  | 12 => if c.value = 0 then some (.moveGateOpen c.index) else if c.value = 1 then some (.moveGateClose c.index) else none
  | 13 => some (.lampTest c.index)
  | 14 => some (.reopen c.index)
  | 15 => some (.closeRoadway c.index)
  | 16 => some (.lockPump c.index)
  | 17 => some (.unlockPump c.index)
  | 18 => some (.clearFault c.index)
  | 19 => some (.rotate c.index)
  | 20 => some (.clearUnknown c.index)
  | 21 => some (.programIdentity (auxLow c) c.index c.value)
  | 22 => some (.readIdentity (auxLow c) c.index)
  | 23 => some (.resetPart c.index)
  | _ => none

/-- The value of a supervisory command after the governing rule of its slot, and the number of the rule where it changed the
value (R156, R157): unchanged without a rule or by PASS, at most the rule's value by CLAMP, at least by RAISE; on a pump the
rule's value is at most 1. A BLOCK gives none. -/
def AfterRule (k : Fin 20) (s : State) (v w : Int) (entry : Option Nat) : Prop :=
  (governingRule k s = none ∧ w = v ∧ entry = none) ∨
  ∃ (n : Nat) (r : Rule), governingRule k s = some (n, r) ∧ r.action ≠ .block ∧
    (r.action = .pass → w = v) ∧
    (r.action = .clamp → w = min v (if k.val < 6 then min (r.value : Int) 1 else r.value)) ∧
    (r.action = .raise → w = max v (if k.val < 6 then min (r.value : Int) 1 else r.value)) ∧
    entry = if w = v then none else some n

/-- The requests as the RQA takes them: the rows of the request reference. -/
def isRequest : Instr → Bool
  | .portAArrival _ => false
  | .portBArrival _ => false
  | .supervisoryCommand _ => false
  | .powerUpReset _ => false
  | .supplyReset => false
  | .requestedReset => false
  | .accountingPeriodExpiry => false
  | .descentTimerExpiry => false
  | .spinUpExpiry _ => false
  | .stopConfirmExpiry _ => false
  | .minimumRunExpiry _ => false
  | .restExpiry _ => false
  | .limitTimerExpiry _ => false
  | .warningExpiry _ => false
  | .clearTimerExpiry _ => false
  | .holdLongExpiry _ => false
  | .progressTimerExpiry _ => false
  | .homingTimerExpiry _ => false
  | .steadyTimerExpiry _ => false
  | .lampTestTimerExpiry _ => false
  | .staleTimerExpiry _ => false
  | .supervisionTimerExpiry => false
  | .portATransmitComplete => false
  | .portBTransmitComplete => false
  | .supplyReturn => false
  | _ => true

end Sys2Proof.Machine
end

