-- ==== Sys2Proof/Certificates/Slice0/Obligations.lean ====
section
/-! DEFINITION. The statements for the provers. A statement about a command names, as its conclusion, the state `exec` answers:
the state itself where the handling makes no announcement but its REPLY, else `settle u`, where `u` is what the command itself
does and `settle` takes the announcements of the handling. -/

section
open Sys2Proof Sys2Proof.Machine

/-! ## The machine -/

/-- The step runs the command at the front of the queue on the state with the queue's rest. -/
def Obligations.FrontCommandRuns : Prop :=
  ∀ (c : Instr) (rest : List Instr) (s : State),
    step { s with pending := c :: rest } = exec c { s with pending := rest }

/-- The model's choice (log 6): on an empty queue one second passes. The uptime rises by 1 and every running timer loses a
second, none below 0; nothing else of the part moves, and a part held in reset counts nothing. -/
def Obligations.EmptyQueuePassesASecond : Prop :=
  ∀ s : State, s.pending = [] →
    (s.running = false → step s = .next s) ∧
    (s.running = true → step s = .next { s with
      uptime := s.uptime + 1,
      siu.nodes := s.siu.nodes.map (fun n => { n with staleTimer := n.staleTimer.map (· - 1) }),
      sau.periodTimer := s.sau.periodTimer.map (· - 1),
      cfl.timer := s.cfl.timer.map (· - 1),
      pev.descent := (match s.pev.descent with
        | .stopped => .stopped
        | .running n => .running (n - 1)
        | .paused n => .paused n),
      pdx.pumps := Vector.ofFn fun i : Fin 6 => { s.pdx.pumps[i] with
        spinUp := s.pdx.pumps[i].spinUp.map (· - 1), stopConfirm := s.pdx.pumps[i].stopConfirm.map (· - 1),
        minRun := s.pdx.pumps[i].minRun.map (· - 1), rest := s.pdx.pumps[i].rest.map (· - 1),
        limit := s.pdx.pumps[i].limit.map (· - 1) },
      psq.portals := Vector.ofFn fun p : Fin 2 => { s.psq.portals[p] with
        warning := s.psq.portals[p].warning.map (· - 1), clear := s.psq.portals[p].clear.map (· - 1),
        holdLong := s.psq.portals[p].holdLong.map (· - 1), progress := s.psq.portals[p].progress.map (· - 1),
        homing := s.psq.portals[p].homing.map (· - 1) },
      lse.zones := Vector.ofFn fun z : Fin 8 => { s.lse.zones[z] with
        steadyTimer := s.lse.zones[z].steadyTimer.map (· - 1), testTimer := s.lse.zones[z].testTimer.map (· - 1) } })

/-- No command, and nothing that follows in its handling, touches the queue of waiting commands. -/
def Obligations.QueueIsKept : Prop :=
  ∀ (c : Instr) (s t : State), exec c s = .next t → t.pending = s.pending

/-! ## Reset -/

/-- The state after reset of a part whose store is at its defaults, and that every condition which the steps keep holds there.
That the store is at its defaults and the part already out of reset is the model's choice (log 4). -/
def Obligations.ResetValues : Prop :=
  State.reset.uptime = 0 ∧ State.reset.running = true ∧ State.reset.pending = [] ∧
  -- R22
  State.reset.sau.est = none ∧ State.reset.sau.overTable = false ∧ State.reset.sau.held = true ∧
  State.reset.sau.first = true ∧ State.reset.sau.baseline = none ∧ State.reset.sau.level = none ∧
  State.reset.sau.count = none ∧ State.reset.sau.levelFresh = .never ∧ State.reset.sau.flowFresh = .never ∧
  State.reset.sau.staging = none ∧ State.reset.sau.periodTimer = some 20 ∧
  -- R24, R36
  State.reset.pev.posture = .dry ∧ State.reset.pev.candidate = .dry ∧ State.reset.pev.descent = .stopped ∧
  State.reset.pev.forced = false ∧ State.reset.pev.held = true ∧ State.reset.pev.time = none ∧
  State.reset.pev.pumpCount = 0 ∧
  -- R38, R39
  (∀ i : Fin 6, State.reset.pdx.pumps[i] = .atReset) ∧ State.reset.pdx.roster = [0, 1] ∧
  (∀ i : Fin 6, State.reset.pdx.faultSet[i] = false ∧ State.reset.pdx.lockoutSet[i] = false) ∧
  -- R80
  State.reset.lda.mains = none ∧ State.reset.lda.generator = none ∧ State.reset.lda.battery = none ∧
  State.reset.lda.cls = .normal ∧ State.reset.lda.low = false ∧ State.reset.lda.tier = .mains ∧
  State.reset.lda.claims = [{ owner := .reserve, amount := 40, granted := true }] ∧
  State.reset.lda.allowance = 6000 - 40 ∧
  -- R103
  (∀ p : Fin 2, State.reset.psq.portals[p] = .atReset .clear) ∧ State.reset.psq.completions = [] ∧
  State.reset.psq.inFlight = 0 ∧
  -- R118, R113
  State.reset.lse.band = .night ∧ State.reset.lse.posture = .dry ∧ (∀ p : Fin 2, State.reset.lse.gates[p] = .unknown) ∧
  State.reset.cfl.slots[beaconSlot 0].target = some 1 ∧ State.reset.cfl.slots[stopSlot 0].target = some 2 ∧
  -- R137, R150
  State.reset.siu.nodes = [] ∧ State.reset.siu.unknown = [] ∧ State.reset.lif.queue = [] ∧ State.reset.lif.fifo = [] ∧
  (∀ n ∈ counters State.reset, n = 0) ∧ State.reset.lif.eventsLost = false ∧
  -- R168, R188
  State.reset.cfl.supervision = .lost ∧ State.reset.cfl.timer = none ∧ State.reset.cfl.firstPresence = false ∧
  State.reset.cfl.posture = .dry ∧ State.reset.cfl.tier = .mains ∧ State.reset.rqa.replySlot = false ∧
  State.reset.rqa.heldReset = false ∧
  -- the conditions that the steps keep
  WithinCapacity State.reset ∧ NodesSound State.reset ∧ EstimatesSound State.reset ∧ DescentSound State.reset ∧
  RosterSound State.reset ∧ OneStarting State.reset ∧ StartsSound State.reset ∧ LoadSound State.reset ∧ GrantedHead State.reset ∧
  SweepSafe State.reset ∧ OperationsSound State.reset ∧ SignalsSound State.reset ∧ ImageSound State.reset

/-- POWER_UP and REQUESTED resets: the tables, the values in use, the cause and what no later announcement touches. POWER_UP
starts a part without supply and restarts a running one; at the reset input of a part held for want of supply it leaves the
part held (log 11). REQUESTED is taken at the completion of RESET PART's REPLY: by PORT_A_TRANSMIT_COMPLETE and by
REQUESTED_RESET, which stands for that completion (log 12); before it, REQUESTED_RESET changes nothing. That the queue of
waiting commands outlasts a reset is the model's choice (log 34). -/
def Obligations.ResetsRestore : Prop :=
  (∀ (b : Bool) (s : State), (b = true ∨ s.running = true) →
    ∃ t, exec (.powerUpReset b) s = .next t ∧ t.running = true ∧ ResetBy .powerUp s t) ∧
  (∀ s : State, s.running = false →
    ∃ t, exec (.powerUpReset false) s = .next t ∧ t.running = false ∧ ResetBy .powerUp s t) ∧
  (∀ (s : State) (e : QueueEntry) (rest : List QueueEntry), s.running = true → s.rqa.heldReset = true →
    s.lif.headSending = true → s.lif.queue = e :: rest → e.kind = .reply →
    ∃ t, exec .requestedReset s = .next t ∧ exec .portATransmitComplete s = .next t ∧ t.running = true ∧
      ResetBy .requested s t) ∧
  ∀ s : State, Quiet s →
    (s.rqa.heldReset = false ∨ s.lif.headSending = false ∨ ∀ e ∈ s.lif.queue.head?, e.kind ≠ .reply) →
    exec .requestedReset s = .next s

/-- SUPPLY: the part is held, with its tables as the store gives them, DRY, the tier MAINS, the queue and the completion list
empty, its pumps IDLE, its gates UNKNOWN and no slot with a target, until the supply returns; then it runs with the tables, the
cause and the values in use it holds. The model's reading (log 11): a reset of this kind of a part already held, and a return
of the supply of a running part, change nothing, and a part held in reset takes nothing but a reset and the return of its
supply. That the queue of waiting commands outlasts a reset is the model's choice (log 34). -/
def Obligations.SupplyFallsAndReturns : Prop :=
  (∀ s : State, s.running = true →
    ∃ t, exec .supplyReset s = .next t ∧ t.running = false ∧ t.agenda = [] ∧ ResetBy .supply s t ∧
      t.pev.posture = .dry ∧ t.lda.tier = .mains ∧ t.lif.queue = [] ∧ t.psq.completions = [] ∧
      (∀ i : Fin 6, t.pdx.pumps[i].state = .idle) ∧ (∀ p : Fin 2, t.psq.portals[p].state = .unknown) ∧
      ∀ k : Fin 20, t.cfl.slots[k].target = none) ∧
  (∀ s : State, s.running = false → s.agenda = [] →
    exec .supplyReset s = .next s ∧
    ∃ t, exec .supplyReturn s = .next t ∧ t.running = true ∧ t.tables = s.tables ∧ t.rqa.cause = s.rqa.cause ∧
      t.uptime = s.uptime ∧ t.rqa.inUse = s.rqa.inUse) ∧
  (∀ s : State, Quiet s → exec .supplyReturn s = .next s) ∧
  ∀ (c : Instr) (s : State), s.running = false → (∀ b, c ≠ .powerUpReset b) → c ≠ .supplyReset → c ≠ .supplyReturn →
    exec c s = .next s

/-! ## The Field Loop -/

/-- What an arrival becomes that reaches no block. On port A: a bad check byte, a malformed cell, FILL, a foreign request, a
misdirected cell, and a REQUEST for another station (R139, R141, R142). The supervisor's COMMAND for the part itself is
misdirected and its REQUEST for another station goes to the pass-through, each after the notice that a supervisory cell gives
(R142), which while supervision is PRESENT restarts its timer alone. On port B: a bad check byte, a malformed cell, FILL, and
the kinds that are only forwarded (R139, R140). -/
def Obligations.ArrivalsNotTaken : Prop :=
  (∀ (c : Cell) (s : State), Quiet s →
    (crc c ≠ c.check → exec (.portAArrival c) s = .next { s with lif.checkErrorsA := bump s.lif.checkErrorsA }) ∧
    (crc c = c.check → cellMalformed c = true →
      exec (.portAArrival c) s = .next { s with lif.malformedA := bump s.lif.malformedA }) ∧
    (crc c = c.check → cellMalformed c = false →
      (c.kind = 7 → exec (.portAArrival c) s = .next s) ∧
      (c.dest.toNat = ownAddress s → c.kind = 4 → c.source ≠ 0 →
        exec (.portAArrival c) s = .next { s with lif.foreign := bump s.lif.foreign }) ∧
      (c.dest.toNat = ownAddress s → c.kind ≠ 7 → c.kind ≠ 4 → ¬(c.kind = 3 ∧ c.source = 0) →
        exec (.portAArrival c) s = .next { s with lif.misdirected := bump s.lif.misdirected }) ∧
      (c.dest.toNat ≠ ownAddress s → c.kind ≠ 7 → c.kind ≠ 4 → c.kind ≠ 3 →
        exec (.portAArrival c) s = .next { s with lif.misdirected := bump s.lif.misdirected }) ∧
      (c.dest.toNat ≠ ownAddress s → c.kind = 4 → c.source ≠ 0 →
        exec (.portAArrival c) s = .next (offerPassThrough c s))) ∧
    (crc c ≠ c.check → exec (.portBArrival c) s = .next { s with lif.checkErrorsB := bump s.lif.checkErrorsB }) ∧
    (crc c = c.check → cellMalformed c = true →
      exec (.portBArrival c) s = .next { s with lif.malformedB := bump s.lif.malformedB }) ∧
    (crc c = c.check → cellMalformed c = false →
      (c.kind = 7 → exec (.portBArrival c) s = .next s) ∧
      (c.kind ≠ 7 → c.kind ≠ 1 → c.kind ≠ 2 → exec (.portBArrival c) s = .next (offer .forwarded c s)))) ∧
  ∀ (c : Cell) (s : State), Quiet s → crc c = c.check → cellMalformed c = false → c.source = 0 →
    (c.kind = 3 → c.dest.toNat = ownAddress s → exec (.portAArrival c) s =
      .next (settle { notice s with lif.misdirected := bump (notice s).lif.misdirected })) ∧
    (c.kind = 4 → c.dest.toNat ≠ ownAddress s → exec (.portAArrival c) s = .next (settle (offerPassThrough c (notice s)))) ∧
    (s.cfl.supervision = .present →
      (c.kind = 3 → c.dest.toNat = ownAddress s → exec (.portAArrival c) s = .next { s with
        cfl.timer := some s.site.supervisionTimeout, lif.misdirected := bump s.lif.misdirected }) ∧
      (c.kind = 4 → c.dest.toNat ≠ ownAddress s → exec (.portAArrival c) s = .next (offerPassThrough c { s with
        cfl.timer := some s.site.supervisionTimeout })))

/-- What the LIF hands on from port A. A supervisory cell's notice is taken first: it restarts the supervision timer, and where
supervision was LOST makes it PRESENT with SUPERVISION_RESTORED, its one aux quantity in the low byte (log 15; R142, R164,
R166). Then, while supervision is PRESENT, a REQUEST of the supervisor for the part is the request its selector, aux and index
name, and is refused where its selector names none (R141, R170, R197); MOVE GATE with a value other than 0 and 1 is refused
with RANGE, detail 2 (R101, log 33). The supervisor's COMMAND for another address is the command the CFL takes, as is that of
another source, which gives no notice (R141). In the model the row of the table begins behind the notice (log 13), and the
cell's handling takes one announcement more than the row's (log 2). -/
def Obligations.PortAHandsOn : Prop :=
  (∀ s : State,
    (notice s).cfl.timer = some s.site.supervisionTimeout ∧ (notice s).cfl.supervision = .present ∧
    (s.cfl.supervision = .present → notice s = { s with cfl.timer := some s.site.supervisionTimeout }) ∧
    (s.cfl.supervision = .lost → (notice s).cfl.firstPresence = true ∧
      (notice s).lif = (emit .supervisionRestored 0 0 0 (bit (!s.cfl.firstPresence)) s).lif ∧
      (notice s).tables = s.tables)) ∧
  (∀ (c : Cell) (s : State), Quiet s → crc c = c.check → cellMalformed c = false → c.source = 0 →
    (c.kind = 4 → c.dest.toNat = ownAddress s →
      exec (.portAArrival c) s = .next (settle (post (.request c) (notice s))) ∧
      (s.cfl.supervision = .present → ∀ i : Instr, requestRow c = some i →
        ∃ u, exec (.portAArrival c) s = .next (drain (Config.maxDeliveries - 1) u) ∧
          exec i { s with cfl.timer := some s.site.supervisionTimeout } = .next (drain Config.maxDeliveries u)) ∧
      (s.cfl.supervision = .present → s.rqa.replySlot = false → (c.selector = 0 ∨ 23 < c.selector.toNat) →
        exec (.portAArrival c) s = .next (placeReply c.selector.toNat c.index.toNat (refused .malformed 1)
          { s with cfl.timer := some s.site.supervisionTimeout })) ∧
      (s.cfl.supervision = .present → s.rqa.replySlot = false → c.selector = 12 → c.value ≠ 0 → c.value ≠ 1 →
        (portalIndex c.index.toNat s).isSome = true →
        exec (.portAArrival c) s = .next (placeReply 12 c.index.toNat (refused .range 2)
          { s with cfl.timer := some s.site.supervisionTimeout }))) ∧
    (c.kind = 3 → c.dest.toNat ≠ ownAddress s →
      exec (.portAArrival c) s = .next (settle (post (.command c) (notice s))) ∧
      (s.cfl.supervision = .present →
        ∃ u, exec (.portAArrival c) s = .next (drain (Config.maxDeliveries - 1) u) ∧
          exec (.supervisoryCommand c) { s with cfl.timer := some s.site.supervisionTimeout } =
            .next (drain Config.maxDeliveries u)))) ∧
  ∀ (c : Cell) (s : State), Quiet s → crc c = c.check → cellMalformed c = false → c.kind = 3 → c.source ≠ 0 →
    c.dest.toNat ≠ ownAddress s → exec (.portAArrival c) s = exec (.supervisoryCommand c) s

/-- A SAMPLE or STATE is taken (R125, R128, R129, R130, R132, R134): its node becomes FRESH with its stale timer restarted, and
its channel takes the value by its kind, unless the cell does not fit the node, which is counted. The watch latch of a DIGITAL
channel is set at a hit of its watch code, by the value before, and else stays. A cell of an address with no record joins the
unknown-address set while there is room, else is counted. No other node and nothing of the tables' configuration moves. Each
assignment that the node serves is handed its freshness where that is new to it, and the value where it takes that channel
(R127, R135); the cell is forwarded last (a node that several assignments name is handed to each, log 22). The level, the
count, the depths and the floats become what was handed, and the level, the depths and the floats have the posture or the rungs
judged (R9, R12, R26). -/
def Obligations.SampleTaken : Prop :=
  (∀ (c : Cell) (s : State), Quiet s → crc c = c.check → cellMalformed c = false → (c.kind = 1 ∨ c.kind = 2) →
    (∀ n : Node, findNode c.source.toNat s = some n →
      ∃ t m, exec (.portBArrival c) s = .next t ∧ findNode c.source.toNat t = some m ∧
        m.freshness = .fresh ∧ m.staleTimer = some n.staleTime ∧ t.siu.unknown = s.siu.unknown ∧
        t.tables = { s.tables with nodes := t.siu.nodes } ∧
        t.siu.nodes.map Node.configuration = s.siu.nodes.map Node.configuration ∧
        (∀ a : Nat, a ≠ c.source.toNat → findNode a t = findNode a s) ∧
        (mismatch n c = true → m.channels = n.channels ∧ t.siu.roleMismatch = bump s.siu.roleMismatch) ∧
        (mismatch n c = false → t.siu.roleMismatch = s.siu.roleMismatch ∧
          (∀ j : Nat, j ≠ c.selector.toNat → m.channels[j]? = n.channels[j]?) ∧
          ∃ old new, n.channels[c.selector.toNat]? = some old ∧ m.channels[c.selector.toNat]? = some new ∧
            new.lastRaw = some (if cellValue c = -2147483648 then -2147483647 else cellValue c) ∧
            (n.role.channelKind c.selector.toNat = .analog →
              new.lastEng = some (scale (old.scaling.getD .default) (cellValue c)).1 ∧ new.latch = old.latch ∧
              new.outOfSpan = (if (scale (old.scaling.getD .default) (cellValue c)).2 = true
                then bump old.outOfSpan else old.outOfSpan)) ∧
            (n.role.channelKind c.selector.toNat = .counter →
              new.lastEng = some (cellValue c % 65536) ∧ new.latch = old.latch ∧ new.outOfSpan = old.outOfSpan) ∧
            (n.role.channelKind c.selector.toNat = .report →
              new.lastEng = new.lastRaw ∧ new.lastFlags = some c.aux ∧ new.latch = old.latch ∧
              new.outOfSpan = old.outOfSpan) ∧
            (n.role.channelKind c.selector.toNat = .digital → ∀ v : Int, v = (if cellValue c = 0 then 0 else 1) →
              new.lastEng = some v ∧ new.outOfSpan = old.outOfSpan ∧
              (new.latch = true ↔ old.latch = true ∨ (old.watch = .rise ∧ old.lastEng = some 0 ∧ v = 1) ∨
                (old.watch = .fall ∧ old.lastEng = some 1 ∧ v = 0) ∨
                (old.watch = .change ∧ ∃ b, old.lastEng = some b ∧ b ≠ v) ∨
                (old.watch = .high ∧ v = 1) ∨ (old.watch = .low ∧ v = 0))))) ∧
    (findNode c.source.toNat s = none →
      ∃ t, exec (.portBArrival c) s = .next t ∧ t.siu.nodes = s.siu.nodes ∧ t.tables = s.tables ∧
        (1 ≤ c.source.toNat → c.source.toNat ≤ 59 →
          (c.source.toNat ∈ s.siu.unknown → t.siu = s.siu) ∧
          (c.source.toNat ∉ s.siu.unknown → s.siu.unknown.length < 8 →
            t.siu = { s.siu with unknown := s.siu.unknown ++ [c.source.toNat] }) ∧
          (c.source.toNat ∉ s.siu.unknown → 8 ≤ s.siu.unknown.length →
            t.siu = { s.siu with unknownSource := bump s.siu.unknownSource })) ∧
        (¬(1 ≤ c.source.toNat ∧ c.source.toNat ≤ 59) →
          t.siu = { s.siu with unknownSource := bump s.siu.unknownSource }))) ∧
  (∀ (c : Cell) (s : State), Quiet s → crc c = c.check → cellMalformed c = false → (c.kind = 1 ∨ c.kind = 2) →
    ∀ n ∈ findNode c.source.toNat s, ∃ u, exec (.portBArrival c) s = .next (settle u) ∧ u.agenda.getLast? = some (.forward c) ∧
      ∀ a ∈ assignmentsOf c.source.toNat s,
        let sel := c.selector.toNat
        let serves : Bool := match a with
          | .float => sel < 2
          | .supply => sel < 3
          | .lamp z => sel = s.lse.config[z].channel
          | .signal _ => false
          | _ => sel = 0
        let d : Delivery :=
          { fresh := if n.freshness = .fresh ∧ s.siu.marks[a.mark] = true then none else some .fresh
            channel := sel
            value := if mismatch n c = false ∧ serves = true
              then (findNode c.source.toNat u).bind fun m => (m.channels[sel]?).bind (·.lastEng) else none
            flags := c.aux }
        u.siu.marks[a.mark] = true ∧
        (a.role ≠ .signal → (d.fresh.isSome = true ∨ d.value.isSome = true) →
          .deliver a d ∈ u.agenda ∧ (a = .float → .deliverFloatPdx d ∈ u.agenda)) ∧
        (a.role = .signal ∨ (d.fresh = none ∧ d.value = none) → (u.agenda.all fun t => match t with
          | .deliver b _ => b ≠ a
          | _ => true) = true)) ∧
  ∀ (s : State) (d : Delivery),
    let value : Option Int → Option Int := fun old => if d.value.isSome = true then d.value else old
    let level : State := { s with sau.level := value s.sau.level, sau.levelFresh := d.fresh.getD s.sau.levelFresh }
    (d.value = none → takeDelivery .level d s = level) ∧
    (∀ v ∈ d.value, takeDelivery .level d s = post (.level v) level) ∧
    takeDelivery .flowmeter d s = { s with
      sau.count := value s.sau.count, sau.flowFresh := d.fresh.getD s.sau.flowFresh } ∧
    takeDelivery .depth1 d s = evaluate { s with
      pev.depth := s.pev.depth.set 0 (value s.pev.depth[0]),
      pev.depthFresh := s.pev.depthFresh.set 0 (d.fresh.getD s.pev.depthFresh[0]) } ∧
    takeDelivery .depth2 d s = evaluate { s with
      pev.depth := s.pev.depth.set 1 (value s.pev.depth[1]),
      pev.depthFresh := s.pev.depthFresh.set 1 (d.fresh.getD s.pev.depthFresh[1]) } ∧
    takeDelivery .float d s = evaluate { s with
      pev.floatFresh := d.fresh.getD s.pev.floatFresh
      pev.lowFloat := if d.channel = 0 then value s.pev.lowFloat else s.pev.lowFloat
      pev.highFloat := if d.channel = 1 then value s.pev.highFloat else s.pev.highFloat }

/-- The port A queue (R138, R143, R144). An entry is admitted at the tail by the free slots its kind needs, else dropped and
counted; a dropped event sets the events-lost flag. The queue has 24 slots, and a reply always finds its slot while no reply is
in the queue and 23 cells at most are. At PORT_A_TRANSMIT_COMPLETE the head that was sent leaves, the next is taken, or FILL
where there is none; the completion of a reply frees the reply slot; nothing else moves. The one completion that takes a reset
held (R189) is not meant here. -/
def Obligations.PortACompletes : Prop :=
  (∀ (c : Cell) (s : State),
    (s.lif.queue.length ≤ 20 → offer .forwarded c s =
      { s with lif.queue := s.lif.queue ++ [{ kind := .forwarded, cell := c }] }) ∧
    (20 < s.lif.queue.length → offer .forwarded c s = { s with lif.forwardDrops := bump s.lif.forwardDrops }) ∧
    (s.lif.queue.length ≤ 22 → offer .event c s =
      { s with lif.queue := s.lif.queue ++ [{ kind := .event, cell := c }] }) ∧
    (22 < s.lif.queue.length → offer .event c s =
      { s with lif.eventDrops := bump s.lif.eventDrops, lif.eventsLost := true }) ∧
    (s.lif.queue.length ≤ 23 → offer .reply c s =
      { s with lif.queue := s.lif.queue ++ [{ kind := .reply, cell := c }] })) ∧
  ∀ s : State, Quiet s →
    (s.rqa.heldReset = false ∨ s.lif.headSending = false ∨ ∀ e ∈ s.lif.queue.head?, e.kind ≠ .reply) →
    ∃ t, exec .portATransmitComplete s = .next t ∧
      t.lif.queue = (if s.lif.headSending = true then s.lif.queue.tail else s.lif.queue) ∧
      t.lif.headSending = !t.lif.queue.isEmpty ∧
      t.lif.txA = ((t.lif.queue.head?.map (·.cell)).getD (fillCell s)) ∧
      t.rqa = { s.rqa with
        replySlot := s.rqa.replySlot && !(s.lif.headSending && s.lif.queue.head?.any (·.kind = .reply)) } ∧
      t.lif = { s.lif with queue := t.lif.queue, headSending := t.lif.headSending, txA := t.lif.txA } ∧
      t = { s with lif := t.lif, rqa := t.rqa }

/-- PORT_B_TRANSMIT_COMPLETE (R147, R148): the arbiter's choice, in its order, and what it emits. -/
def Obligations.PortBArbitrates : Prop :=
  ∀ s : State, Quiet s →
    (∀ (cls : SlotClass) (k : Fin 20), slotReady cls k s = true → (∀ j : Fin 20, j < k → slotReady cls j s = false) →
      (cls = .ordinary → (∀ j : Fin 20, slotReady .safety j s = false) ∧ s.lif.fifo = []) →
      ∃ t, exec .portBTransmitComplete s = .next t ∧
        t.lif = { s.lif with txB := withCheck (Cell.mk 3 (BitVec.ofNat 8 (ownAddress s))
          (BitVec.ofNat 8 s.cfl.slots[k].node) (BitVec.ofNat 8 s.cfl.slots[k].channel)
          (BitVec.ofInt 32 (s.cfl.slots[k].target.getD 0)) 0 0 0) } ∧
        t.cfl.slots[k] = { s.cfl.slots[k] with emitted := s.cfl.slots[k].target, pending := false } ∧
        (∀ j : Fin 20, j ≠ k → t.cfl.slots[j] = s.cfl.slots[j]) ∧
        (∀ z : Fin 8, zoneSlot z = k → s.cfl.slots[k].emitted ≠ s.cfl.slots[k].target →
          t.lse.zones[z].steady = false ∧ t.lse.zones[z].steadyTimer = some 5) ∧
        t.tables = s.tables ∧ t.pdx = s.pdx ∧ t.psq = s.psq) ∧
    ((∀ j : Fin 20, slotReady .safety j s = false) →
      (∀ (c : Cell) (rest : List Cell), s.lif.fifo = c :: rest →
        exec .portBTransmitComplete s = .next { s with lif.fifo := rest, lif.txB := c }) ∧
      (s.lif.fifo = [] → (∀ j : Fin 20, slotReady .ordinary j s = false) →
        exec .portBTransmitComplete s = .next { s with lif.txB := fillCell s }))

/-- No step takes a queue, a set or a counter over its capacity (R132, R143, R144, R146). -/
def Obligations.CapacityKept : Prop :=
  ∀ s t : State, WithinCapacity s → step s = .next t → WithinCapacity t

/-- The check byte (R191): FILL of address 62 carries D2h, a cell with its check formed passes the test, and no change of a
single byte of a cell keeps its check. -/
def Obligations.CheckByteDetects : Prop :=
  crc { kind := 7, source := 62, dest := 0, selector := 0, value := 0, aux := 0, index := 0, check := 0 } = 0xD2 ∧
  (∀ c : Cell, checkHolds (withCheck c) = true) ∧
  ∀ (front back : List Byte) (x y : Byte), x ≠ y →
    (front ++ x :: back).foldl crcByte 0 ≠ (front ++ y :: back).foldl crcByte 0

/-! ## The Node Table and sample intake -/

/-- The Node Table keeps its order, its limits and its agreement with the unknown-address set (R119, R121, R132). -/
def Obligations.NodesKept : Prop :=
  ∀ s t : State, NodesSound s → step s = .next t → NodesSound t

/-- STALE_TIMER_EXPIRY (R126): at the expiry of a stale timer, with no seconds left, the node becomes STALE with its timer stopped
and keeps everything else. A timer that is stopped, or restarted by a cell taken first, has no expiry to take (R127, log 6). -/
def Obligations.StaleExpiry : Prop :=
  ∀ (a : Nat) (s : State), Quiet s →
    (∀ n : Node, findNode a s = some n → n.staleTimer = some 0 →
      ∃ t, exec (.staleTimerExpiry a) s = .next t ∧
        findNode a t = some { n with freshness := .stale, staleTimer := none } ∧
        (∀ b : Nat, b ≠ a → findNode b t = findNode b s) ∧
        t.siu.nodes.map (·.address) = s.siu.nodes.map (·.address) ∧ t.siu.unknown = s.siu.unknown) ∧
    ((∀ n : Node, findNode a s = some n → n.staleTimer ≠ some 0) → exec (.staleTimerExpiry a) s = .next s)

/-- Scaling (R128): the ends of the span give the ends of the engineering range, every value lies between them, a value is
counted as clamped exactly when it is outside the span, and with engineering high not below engineering low the value does not
fall as the raw value rises. -/
def Obligations.ScalingBounds : Prop :=
  ∀ c : Scaling, c.rawLow ≤ c.rawHigh →
    (c.rawLow < c.rawHigh → (scale c c.rawLow).1 = c.engLow ∧ (scale c c.rawHigh).1 = c.engHigh) ∧
    (∀ v : Int, min c.engLow c.engHigh ≤ (scale c v).1 ∧ (scale c v).1 ≤ max c.engLow c.engHigh ∧
      ((scale c v).2 = true ↔ v < c.rawLow ∨ c.rawHigh < v)) ∧
    (c.engLow ≤ c.engHigh → ∀ v w : Int, v ≤ w → (scale c v).1 ≤ (scale c w).1)

/-! ## Sump accounting -/

/-- R2. The volume lookup of a valid table: the first volume at or below the first breakpoint, the last volume and "over the
table" at or above the last, and between two neighbours the truncated interpolation; every volume lies between the first and the
last, and a higher level never gives a lower volume. -/
def Obligations.VolumeLookup : Prop :=
  ∀ t : StageTable, t.valid = true →
    (∀ first ∈ t.used.head?, ∀ l : Int, l ≤ first.level → lookup t l = ((first.volume : Int), false)) ∧
    (∀ last ∈ t.used.getLast?, ∀ l : Int, (last.level : Int) ≤ l → lookup t l = ((last.volume : Int), true)) ∧
    (∀ (i : Nat) (p q : Breakpoint) (l : Int), t.used[i]? = some p → t.used[i + 1]? = some q → (p.level : Int) ≤ l →
      l < q.level → lookup t l =
        (p.volume + Int.tdiv (((q.volume : Int) - p.volume) * (l - p.level)) ((q.level : Int) - p.level), false)) ∧
    (∀ first ∈ t.used.head?, ∀ last ∈ t.used.getLast?, ∀ l : Int,
      (first.volume : Int) ≤ (lookup t l).1 ∧ (lookup t l).1 ≤ last.volume) ∧
    (∀ l m : Int, l ≤ m → (lookup t l).1 ≤ (lookup t m).1)

/-- R15. The smoothing with shift k: the new value is the old one plus the difference over 2^k rounded toward negative infinity;
with k = 0 it is the input; from below it stops exactly when the gap is 2^k - 1 or less; from above it moves by at least 1 and
never past the input. An ordinary period smooths the net rise and the inflow so, each from its value before. -/
def Obligations.Smoothing : Prop :=
  (∀ (k : Nat) (old new : Int), smooth k old new = old + Int.fdiv (new - old) (2 ^ k)) ∧
  (∀ old new : Int, smooth 0 old new = new) ∧
  (∀ (k : Nat) (old new : Int), old ≤ new →
    (smooth k old new = old ↔ new - old ≤ 2 ^ k - 1) ∧ old ≤ smooth k old new ∧ smooth k old new ≤ new) ∧
  (∀ (k : Nat) (old new : Int), new < old → smooth k old new ≤ old - 1 ∧ new ≤ smooth k old new) ∧
  (∀ (s : State) (e : Estimates) (v : Int) (o : OutflowStep),
    (ordinaryEstimates s e v o).netRise =
      smooth s.site.shift e.netRise (Int.tdiv (v - e.volume) s.sau.periodLength) ∧
    (ordinaryEstimates s e v o).inflow =
      smooth s.site.shift e.inflow (Int.tdiv (v - e.volume) s.sau.periodLength + o.outflow))

/-- At every step the time-to-roadway stays 0 where the headroom is not above 0, 65535 where the level does not rise, and else the
headroom over the net rise, rounded down and held to 1-65534 (R16); and the outflow stays non-negative (R12). -/
def Obligations.EstimatesKept : Prop :=
  ∀ s t : State, EstimatesSound s → step s = .next t → EstimatesSound t

/-- ACCOUNTING_PERIOD_EXPIRY (R8, R10-R21): held where the table is invalid or the level node has no FRESH level, else a first
period, else an ordinary one. Each announces its completion to the PEV and the PDX, in either order, and starts the next
period. A held expiry keeps the estimates and moves the counter baseline (R19, R20). A first period sets the rates to 0 and the
deficit to the negative of C_avail (R18). An ordinary one forms O from the count in the four cases of R12, tested against twice
what the installed pumps can lift (R13), smooths N and Qin (R14, R15), and takes H, T and D from them (R16, R17).
ESTIMATE_HELD, its cause in the low byte of its aux (log 15), and ESTIMATE_RESUMED stand at the ends of a hold (R19, R21);
FLOW_IMPLAUSIBLE stands before ESTIMATE_RESUMED by the model's choice (log 26). A period timer that is stopped, or has seconds
left, has no expiry to take (log 6). The start of a period fixes its length, the P of that moment, multiplied by m while the
posture is DRY, and runs the timer for it; a posture announcement leaves the length and the timer of the period under way (R8).
-/
def Obligations.AccountingExpiry : Prop :=
  (∀ (s : State), Quiet s → s.sau.periodTimer ≠ some 0 → exec .accountingPeriodExpiry s = .next s) ∧
  (∀ (s : State),
    heldCause s = none ↔
      s.sau.table.valid = true ∧ assigned .level s = true ∧ s.sau.levelFresh = .fresh ∧ s.sau.level.isSome = true) ∧
  (∀ (s : State), Quiet s → s.sau.periodTimer = some 0 →
    let period : Int := s.sau.periodLength
    let lift : Int := (((List.finRange 6).filter fun i => pumpInstalled i s).map fun i => s.pdx.config[i].ratedFlow).sum
    let resumed : Int → State → State := fun time w => if s.sau.held = true then emit .estimateResumed 0 time 0 0 w else w
    let timeOf : Int → Int → Int := fun h n => if h ≤ 0 then 0 else if n ≤ 0 then 65535 else max 1 (min 65534 (Int.fdiv h n))
    ∃ u, exec (.accountingPeriodExpiry) s = .next (settle u) ∧
    (let done : Accounting := { time := u.sau.est.map (·.time), inflow := u.sau.est.map (·.inflow),
                                deficit := u.sau.est.map (·.deficit), held := u.sau.held, level := u.sau.usedLevel }
     u.agenda = [.completionPev done, .completionPdx done, .startPeriod] ∨
     u.agenda = [.completionPdx done, .completionPev done, .startPeriod]) ∧
    (settle u).sau.est = u.sau.est ∧ (settle u).sau.held = u.sau.held ∧ (settle u).sau.first = u.sau.first ∧
    (settle u).sau.overTable = u.sau.overTable ∧ (settle u).sau.usedLevel = u.sau.usedLevel ∧
    (settle u).sau.baseline = u.sau.baseline ∧ (settle u).sau.vRoad = s.sau.vRoad ∧ (settle u).tables = s.tables ∧
    (∀ cause ∈ heldCause s,
      u.sau.est = s.sau.est ∧ u.sau.held = true ∧ u.sau.first = s.sau.first ∧ u.sau.overTable = s.sau.overTable ∧
      u.sau.usedLevel = s.sau.usedLevel ∧
      u.sau.baseline = (if s.sau.flowFresh = .fresh ∧ s.sau.count.isSome = true then s.sau.count else s.sau.baseline) ∧
      u.lif = (if s.sau.held = true ∧ s.sau.heldSeen = true then s.lif else (emit .estimateHeld 0 0 0 cause.code s).lif)) ∧
    (heldCause s = none → u.sau.held = false ∧ u.sau.first = false ∧ u.sau.usedLevel = s.sau.level ∧
      ∀ l ∈ s.sau.level,
        let volume := (lookup s.sau.table l).1
        let headroom := s.sau.vRoad.getD 0 - volume
        u.sau.overTable = (lookup s.sau.table l).2 ∧
        (s.sau.first = true →
          u.sau.est = some { volume := volume, outflow := 0, netRise := 0, inflow := 0, headroom := headroom,
                             time := timeOf headroom 0, deficit := 0 - s.sau.cAvail } ∧
          u.sau.baseline = (if s.sau.flowFresh = .fresh then s.sau.count else none) ∧
          u.lif = (resumed (timeOf headroom 0) s).lif) ∧
        (s.sau.first = false → ∀ e ∈ s.sau.est,
          let rise := Int.tdiv (volume - e.volume) period
          let netRise := e.netRise + Int.fdiv (rise - e.netRise) (2 ^ s.site.shift)
          let time := timeOf headroom netRise
          let gives : Int → Option Int → State → Prop := fun outflow baseline w =>
            let inflow := e.inflow + Int.fdiv (rise + outflow - e.inflow) (2 ^ s.site.shift)
            u.sau.est = some { volume := volume, outflow := outflow, netRise := netRise, inflow := inflow,
                               headroom := headroom, time := time, deficit := inflow - s.sau.cAvail } ∧
            u.sau.baseline = baseline ∧ u.lif = (resumed time w).lif
          (s.sau.flowFresh = .fresh → ∀ now ∈ s.sau.count, ∀ base ∈ s.sau.baseline,
            let counts := (now - base) % 65536
            let volume := counts * s.site.litresPerCount
            (2 * period * lift < volume → gives e.outflow (some now) (emit .flowImplausible 0 counts 0 0 s)) ∧
            (volume ≤ 2 * period * lift → gives (Int.tdiv volume period) (some now) s)) ∧
          (s.sau.flowFresh = .fresh → s.sau.baseline = none → gives 0 s.sau.count s) ∧
          (s.sau.flowFresh = .stale → gives 0 s.sau.baseline s) ∧ (s.sau.flowFresh = .never → gives 0 none s)))) ∧
  ∀ (s : State) (new prev : Posture) (cause : PostureCause),
    let length : Nat := if s.sau.posture = .dry then s.site.period * s.site.dryMultiplier else s.site.period
    let t := runTask (.posture .sau new prev cause) s
    runTask .startPeriod s = { s with sau.periodLength := length, sau.periodTimer := some length } ∧
    t.sau.posture = new ∧ t.sau.periodLength = s.sau.periodLength ∧ t.sau.periodTimer = s.sau.periodTimer

/-- The stage-table edit (R3-R6): OPEN EDIT copies the active table, a write lands in the staging area alone, CLOSE EDIT
replaces the active table by a valid staging area and refuses an invalid one, ABANDON EDIT discards the staging area, and each
refusal changes nothing. -/
def Obligations.StageTableEdit : Prop :=
  (∀ (s : State) (i : Byte), Ready s →
    (stormy s = false → s.sau.staging = none → exec (.openEdit i) s =
      .next (placeReply 7 i.toNat (okWith 0 0) { s with sau.staging := some s.sau.table })) ∧
    (stormy s = true → exec (.openEdit i) s = .next (placeReply 7 i.toNat (refused .posture 0) s)) ∧
    (stormy s = false → s.sau.staging.isSome = true →
      exec (.openEdit i) s = .next (placeReply 7 i.toNat (refused .edit 0) s)) ∧
    (s.sau.staging = none → exec (.closeEdit i) s = .next (placeReply 8 i.toNat (refused .edit 0) s)) ∧
    (∀ u : StageTable, s.sau.staging = some u →
      (u.valid = true → exec (.closeEdit i) s = .next (placeReply 8 i.toNat (okWith 0 0) { s with
        sau.table := u, sau.staging := none, sau.vRoad := some (lookup u u.spill).1, sau.baseline := none,
        sau.first := true, checkOk := s.checkOk.set Table.stage.place true })) ∧
      (u.valid = false →
        exec (.closeEdit i) s = .next (placeReply 8 i.toNat (refused .table (closeEditDetail u)) s)) ∧
      (∀ (f : Byte) (v : Word) (w : StageTable), f.toNat ≤ 3 →
        stagePut u f.toNat i.toNat v.toInt.toNat = some w →
        (stageRange f.toNat v.toInt = true → exec (.writeFieldStageTable f i v) s =
          .next (placeReply 5 i.toNat (okWith v.toInt 0) { s with sau.staging := some w })) ∧
        (stageRange f.toNat v.toInt = false → exec (.writeFieldStageTable f i v) s =
          .next (placeReply 5 i.toNat (refused .range 2) s)))) ∧
    (s.sau.staging = none → ∀ (f : Byte) (v : Word), f.toNat ≤ 3 →
      exec (.writeFieldStageTable f i v) s = .next (placeReply 5 i.toNat (refused .edit 0) s))) ∧
  ∀ (s : State) (i : Byte), Ready s →
    (s.sau.staging.isSome = true →
      exec (.abandonEdit i) s = .next (placeReply 9 i.toNat (okWith 0 0) { s with sau.staging := none })) ∧
    (s.sau.staging = none → exec (.abandonEdit i) s = .next (placeReply 9 i.toNat (refused .edit 0) s))

/-! ## The posture -/

/-- R25. The candidate is the highest posture whose condition holds; the accounting level it reads is that of the last computed
period, also during a hold. -/
def Obligations.CandidateIsHighest : Prop :=
  ∀ s : State,
    let depthAtLeast : Nat → Prop := fun limit => ∃ (n : Fin 2) (d : Int),
      s.pev.depthFresh[n] = .fresh ∧ s.pev.depth[n] = some d ∧ (limit : Int) ≤ d
    let timeAtMost : Nat → Prop := fun limit => s.pev.held = false ∧ ∃ t : Int, s.pev.time = some t ∧ t ≤ limit
    let closed := timeAtMost s.pev.thresholds.closeTime ∨ depthAtLeast s.pev.thresholds.closeDepth ∨ s.pev.forced = true
    let alert := timeAtMost s.pev.thresholds.alertTime ∨ depthAtLeast s.pev.thresholds.alertDepth
    let storm := (∃ l : Int, s.pev.level = some l ∧ (s.pev.thresholds.stormLevel : Int) ≤ l) ∨
      (s.pev.held = false ∧ ∃ q : Int, s.pev.inflow = some q ∧ (s.pev.thresholds.stormInflow : Int) ≤ q) ∨
      (s.pev.held = false ∧ ∃ d : Int, s.pev.deficit = some d ∧ 0 < d) ∨
      (s.pev.floatFresh = .fresh ∧ s.pev.highFloat = some 1)
    let wet := (∃ l : Int, s.pev.level = some l ∧ (s.pev.thresholds.wetLevel : Int) ≤ l) ∨ 1 ≤ s.pev.pumpCount ∨
      (s.pev.floatFresh = .fresh ∧ s.pev.lowFloat = some 1)
    (candidateOf s = .closed ↔ closed) ∧ (candidateOf s = .alert ↔ alert ∧ ¬closed) ∧
    (candidateOf s = .storm ↔ storm ∧ ¬alert ∧ ¬closed) ∧
    (candidateOf s = .wet ↔ wet ∧ ¬storm ∧ ¬alert ∧ ¬closed) ∧
    (candidateOf s = .dry ↔ ¬wet ∧ ¬storm ∧ ¬alert ∧ ¬closed) ∧
    (∀ a : Accounting, (pevCompletion a s).pev.level = a.level) ∧
    ((heldCause s).isSome = true → (accountingOf (account s)).level = s.sau.usedLevel) ∧
    (∀ l : Int, heldCause s = none → s.sau.level = some l → (accountingOf (account s)).level = some l)

/-- R27. An evaluation that finds the candidate above the posture makes it the posture at once, stops the descent timer, offers
POSTURE with the cause RISE, and announces the change to the five receivers; no evaluation lowers the posture, and a held copy
keeps none from rising. -/
def Obligations.EvaluationRises : Prop :=
  ∀ s : State,
    (s.pev.posture.code < (candidateOf s).code →
      (evaluate s).pev.posture = candidateOf s ∧ (evaluate s).pev.descent = .stopped ∧
      (evaluate s).lif = (emit .posture 0 (candidateOf s).code s.pev.posture.code PostureCause.rise.code s).lif ∧
      ∃ told : List Task, (evaluate s).agenda = s.agenda ++ told ∧ told.Perm
        [.posture .sau (candidateOf s) s.pev.posture .rise, .posture .pdx (candidateOf s) s.pev.posture .rise,
          .posture .psq (candidateOf s) s.pev.posture .rise, .posture .lse (candidateOf s) s.pev.posture .rise,
          .posture .cfl (candidateOf s) s.pev.posture .rise]) ∧
    ((candidateOf s).code ≤ s.pev.posture.code → (evaluate s).pev.posture = s.pev.posture ∧
      (evaluate s).agenda = s.agenda ∧ (evaluate s).lif = s.lif) ∧
    (evaluate s).pev.candidate = candidateOf s

/-- The descent timer (R28-R30, R34). An evaluation that finds the candidate equal to the posture stops it; one that finds it
below starts it from STOPPED with the full descent time, PAUSED under a hold, and else leaves it as it is. A completion pauses
a running timer under a hold and lets a paused one run on at its end, with the time it had left, while the candidate stays
below the posture. DESCENT_TIMER_EXPIRY drops the posture one step, with POSTURE and the cause DESCENT, announces it to the
SAU, the PDX, the PSQ, the LSE and the CFL, in any order, and restarts the timer while the kept candidate is still lower. A
timer that is not RUNNING, or has seconds left, has no expiry to take (log 6). -/
def Obligations.DescentExpiry : Prop :=
  (∀ (s : State), Quiet s →
    (s.pev.descent = .running 0 → s.pev.posture ≠ .dry → s.pev.posture ≠ .closed →
      ∃ u, exec (.descentTimerExpiry) s = .next (settle u) ∧ u.pev.posture.code + 1 = s.pev.posture.code ∧
        u.pev.candidate = s.pev.candidate ∧
        u.pev.descent = (if s.pev.candidate.code < u.pev.posture.code
          then .running s.pev.thresholds.descentTime else .stopped) ∧
        u.lif = (emit .posture 0 u.pev.posture.code s.pev.posture.code PostureCause.descent.code s).lif ∧
        u.agenda.Perm [.posture .sau u.pev.posture s.pev.posture .descent, .posture .pdx u.pev.posture s.pev.posture .descent,
          .posture .psq u.pev.posture s.pev.posture .descent, .posture .lse u.pev.posture s.pev.posture .descent,
          .posture .cfl u.pev.posture s.pev.posture .descent] ∧
        u.tables = s.tables ∧ u.pdx = s.pdx ∧ u.psq = s.psq ∧ u.lse = s.lse ∧ u.cfl = s.cfl ∧ u.lda = s.lda) ∧
    (s.pev.descent ≠ .running 0 → exec .descentTimerExpiry s = .next s)) ∧
  (∀ (s : State),
    ((candidateOf s).code = s.pev.posture.code → (evaluate s).pev.descent = .stopped) ∧
    ((candidateOf s).code < s.pev.posture.code → s.pev.posture ≠ .closed → (evaluate s).pev.descent =
      (match s.pev.descent with
        | .stopped => if s.pev.held = true then .paused s.pev.thresholds.descentTime else .running s.pev.thresholds.descentTime
        | .running n => .running n
        | .paused n => .paused n))) ∧
  ∀ (s : State) (a : Accounting),
    let taken : State := { s with
      pev.time := a.time, pev.inflow := a.inflow, pev.deficit := a.deficit, pev.held := a.held, pev.level := a.level }
    let t := runTask (.completionPev a) s
    (s.pev.posture.code ≤ (candidateOf taken).code → t.pev.posture = candidateOf taken ∧ t.pev.descent = .stopped) ∧
    ((candidateOf taken).code < s.pev.posture.code → s.pev.posture ≠ .closed →
      t.pev.posture = s.pev.posture ∧ t.pev.descent =
        (match s.pev.descent with
          | .stopped =>
            if a.held = true then .paused s.pev.thresholds.descentTime else .running s.pev.thresholds.descentTime
          | .running n => if a.held = true then .paused n else .running n
          | .paused n => if a.held = true then .paused n else .running n))

/-- CLOSE_ROADWAY sets the forced flag and stops the descent timer; where the posture was lower it becomes CLOSED, with POSTURE
and the cause CLOSE_ROADWAY (R32, R34). REOPEN of a CLOSED posture whose candidate without the flag is lower clears the flag,
stops the timer and lowers the posture to that candidate at once, with POSTURE and the cause REOPEN (R33). Each change is
announced to the SAU, the PDX, the PSQ, the LSE and the CFL, in any order, and the REPLY follows (R34). Any other REOPEN is
refused with POSTURE and changes nothing: detail 0 below CLOSED, else the first that holds of 1, the time, where it is not
held, 2, the depth of node 1, FRESH, and 3, that of node 2. -/
def Obligations.RoadwayRequests : Prop :=
  ∀ (s : State) (i : Byte), Ready s →
    let told : Posture → PostureCause → List Task := fun new cause =>
      [.posture .sau new s.pev.posture cause, .posture .pdx new s.pev.posture cause, .posture .psq new s.pev.posture cause,
        .posture .lse new s.pev.posture cause, .posture .cfl new s.pev.posture cause]
    let ok : Answer := { status := .ok, detail := 0, result := .posture }
    let detail : Nat := if s.pev.held = false ∧ (s.pev.time.any fun t => t ≤ (s.pev.thresholds.closeTime : Int)) = true then 1
      else if s.pev.depthFresh[(0 : Fin 2)] = .fresh ∧
        (s.pev.depth[(0 : Fin 2)].any fun d => (s.pev.thresholds.closeDepth : Int) ≤ d) = true then 2 else 3
    (s.pev.posture ≠ .closed → ∃ u, exec (.closeRoadway i) s = .next (settle u) ∧ u.pev = { s.pev with
          posture := .closed, candidate := .closed, forced := true, descent := .stopped } ∧
        u.lif = (emit .posture 0 Posture.closed.code s.pev.posture.code PostureCause.closeRoadway.code s).lif ∧
        u.agenda.getLast? = some (.reply 15 i.toNat ok) ∧ u.agenda.dropLast.Perm (told .closed .closeRoadway) ∧
        u.tables = s.tables ∧ u.pdx = s.pdx ∧ u.psq = s.psq ∧ u.lse = s.lse ∧ u.cfl = s.cfl) ∧
    (s.pev.posture = .closed → exec (.closeRoadway i) s = .next (placeReply 15 i.toNat ok
      { s with pev.candidate := .closed, pev.forced := true, pev.descent := .stopped })) ∧
    (s.pev.posture = .closed → candidateWith false s ≠ .closed →
      ∃ u, exec (.reopen i) s = .next (settle u) ∧ u.pev = { s.pev with
          posture := candidateWith false s, candidate := candidateWith false s, forced := false, descent := .stopped } ∧
        u.lif = (emit .posture 0 (candidateWith false s).code Posture.closed.code PostureCause.reopen.code s).lif ∧
        u.agenda.getLast? = some (.reply 14 i.toNat ok) ∧
        u.agenda.dropLast.Perm (told (candidateWith false s) .reopen) ∧
        u.tables = s.tables ∧ u.pdx = s.pdx ∧ u.psq = s.psq ∧ u.lse = s.lse ∧ u.cfl = s.cfl) ∧
    (s.pev.posture ≠ .closed → exec (.reopen i) s =
      .next (placeReply 14 i.toNat { status := .posture, detail := 0, result := .value s.pev.posture.code } s)) ∧
    (s.pev.posture = .closed → candidateWith false s = .closed → exec (.reopen i) s =
      .next (placeReply 14 i.toNat { status := .posture, detail := detail, result := .value Posture.closed.code } s))

/-- R31. The posture leaves CLOSED only through an accepted REOPEN, by a command of its own or by a cell that carries it, or a
reset; while it is CLOSED an evaluation changes the kept
candidate alone, which STATUS shows, and the descent timer is STOPPED in every state that a step reaches from one where it is. -/
def Obligations.ClosedIsLatched : Prop :=
  (∀ (c : Instr) (s t : State), s.agenda = [] → s.pev.posture = .closed → exec c s = .next t → mayReset c = false →
    (∀ i, c = .reopen i → candidateWith false s = .closed) →
    (∀ x : Cell, c = .portAArrival x → x.kind = 4 → x.selector = 14 → candidateWith false s = .closed) →
    t.pev.posture = .closed) ∧
  (∀ s : State, s.pev.posture = .closed → s.pev.descent = .stopped →
    evaluate s = { s with pev.candidate := candidateOf s }) ∧
  (∀ s t : State, DescentSound s → step s = .next t → DescentSound t) ∧
  (∀ s : State, s.pev.posture = .closed → statusPage0 s / 65536 = 4 * 256 + s.pev.candidate.code)

/-! ## The pumps -/

/-- Every installed pump stays in exactly one of the roster, the fault set and the lockout set (R39), and no step leaves two
pumps STARTING (R53, R59). -/
def Obligations.PumpsKept : Prop :=
  ∀ s t : State, RosterSound s → OneStarting s → step s = .next t → RosterSound t ∧ OneStarting t

/-- No step records more starts of a pump than its limit within 3600 seconds, while the uptime does not wrap (R37, R40). -/
def Obligations.StartsKept : Prop :=
  ∀ s t : State, StartsSound s → s.uptime.toNat + 1 < 2 ^ 32 → step s = .next t → StartsSound t

/-- R42-R45 and R55. At a level each rung in use becomes active at or above its start level and inactive at or below its stop
level, and else keeps its activity. Demand is the number of active rungs, and one more in STORM or above where the inflow
exceeds the rated flows of the pumps RUNNING; under a hold the floats decide, or demand stays; it is capped at the available
pumps. Each event of R45 makes its dispatch, after demand is recomputed where the rule says so. A dispatch makes the demand
stops first: while the engaged pumps exceed demand, the pump that entered RUNNING last, of equal ones the nearest the roster
tail, is stopped for DEMAND if it has served its minimum run; else no pump is; a STARTING pump in the excess does not save it,
by the model's choice (log 50; run-since uptimes are compared as numbers, log 10). Then come the power-wait and the start
selection. -/
def Obligations.DemandAndDispatch : Prop :=
  (∀ (s : State) (l : Int) (n : Fin 6),
    let r := s.pdx.ladder.rungs[n]
    let t := evaluateRungs (some l) s
    t = { s with pdx.active := t.pdx.active } ∧
    (s.pdx.ladder.count ≤ n.val → t.pdx.active[n] = false) ∧
    (n.val < s.pdx.ladder.count →
      ((r.start : Int) ≤ l → t.pdx.active[n] = true) ∧ (l < r.start → l ≤ r.stop → t.pdx.active[n] = false) ∧
      (l < r.start → (r.stop : Int) < l → t.pdx.active[n] = s.pdx.active[n])) ∧
    (evaluateRungs none s).pdx.active[n] = (s.pdx.active[n] && decide (n.val < s.pdx.ladder.count))) ∧
  (∀ (s : State),
    let available := ((List.finRange 6).filter fun i => s.pdx.roster.contains i && partHas (pumpSlot i) s &&
      (s.pdx.pumps[i].state = .idle || s.pdx.pumps[i].state = .starting || s.pdx.pumps[i].state = .running)).length
    let flow : Nat := (((List.finRange 6).filter fun i => pumpInstalled i s && s.pdx.pumps[i].state = .running).map
      fun i => s.pdx.config[i].ratedFlow).sum
    let t := recomputeDemand s
    t = { s with pdx.demand := t.pdx.demand } ∧
    (s.pdx.held = false → t.pdx.demand = min available (((List.finRange 6).filter fun n => s.pdx.active[n]).length +
      (if 2 ≤ s.pdx.posture.code ∧ (s.pdx.inflow.any fun q => (flow : Int) < q) = true then 1 else 0))) ∧
    (s.pdx.held = true → s.pdx.floatFresh = .fresh → s.pdx.highFloat = some 1 → t.pdx.demand = available) ∧
    (s.pdx.held = true → s.pdx.floatFresh = .fresh → s.pdx.highFloat = some 0 → s.pdx.lowFloat = some 0 →
      t.pdx.demand = 0) ∧
    (s.pdx.held = true → ¬(s.pdx.floatFresh = .fresh ∧
        (s.pdx.highFloat = some 1 ∨ (s.pdx.highFloat = some 0 ∧ s.pdx.lowFloat = some 0))) →
      t.pdx.demand = min available s.pdx.demand)) ∧
  (∀ (s : State) (l : Int) (a : Accounting) (p q : Posture) (cause : PostureCause) (d : Delivery),
    runTask (.level l) s = dispatch (recomputeDemand (evaluateRungs (some l) s)) ∧
    runTask (.completionPdx a) s = dispatch (recomputeDemand { s with pdx.held := a.held, pdx.inflow := a.inflow }) ∧
    runTask (.posture .pdx p q cause) s = dispatch (recomputeDemand { s with pdx.posture := p }) ∧
    runTask (.deliverFloatPdx d) s = dispatch (recomputeDemand { s with
      pdx.floatFresh := d.fresh.getD s.pdx.floatFresh
      pdx.lowFloat := if d.value.isSome ∧ d.channel = 0 then d.value else s.pdx.lowFloat
      pdx.highFloat := if d.value.isSome ∧ d.channel = 1 then d.value else s.pdx.highFloat }) ∧
    runTask (.dispatch true) s = dispatch (recomputeDemand s) ∧ runTask (.dispatch false) s = dispatch s ∧
    dispatch s = selectStart (reexamine (demandStops 6 s))) ∧
  ∀ (s : State), s.pdx.roster.Nodup →
    let left := demandStops 6 s
    (engagedCount s ≤ s.pdx.demand → left = s) ∧
    ((∀ i : Fin 6, pumpEngaged i s = true → s.pdx.pumps[i].state ≠ .running) → left = s) ∧
    (engagedCount left ≤ left.pdx.demand ∨ ∀ i : Fin 6, RanLast i left → left.pdx.pumps[i].minRun ≠ none) ∧
    ∀ i : Fin 6, s.pdx.demand < engagedCount s → RanLast i s →
      (s.pdx.pumps[i].minRun ≠ none → left = s) ∧
      (s.pdx.pumps[i].minRun = none → left = demandStops 5 (pumpAnnounced i .running .demand
        { engineWrite (pumpSlot i) 0 s with
          pdx.pumps := s.pdx.pumps.set i { s.pdx.pumps[i] with
            state := .stopping, stopCause := some .demand, runSince := none, spinUp := none, minRun := none,
            stopConfirm := some s.pdx.config[i].stopConfirm } }))

/-- The start selection (R53): the one pump whose state it changes goes from IDLE to STARTING; it is in the roster, PART,
FRESH, rested, below its start limit and with its claim granted, while no installed pump was STARTING, none waited for power
and demand exceeded the engaged pumps. That pump is the first of the roster that meets R53's conditions: its claim is asked
for, and granted it starts, its slot written and its start recorded, while with the claim left WAITING it stays IDLE with
power-wait set. The rest since the last stop and the age of a start are differences of uptimes modulo 2^32, the model's reading
(log 10). -/
def Obligations.StartSelection : Prop :=
  (∀ s : State,
    (∀ i : Fin 6, (selectStart s).pdx.pumps[i].state ≠ s.pdx.pumps[i].state →
      s.pdx.pumps[i].state = .idle ∧ (selectStart s).pdx.pumps[i].state = .starting ∧ i ∈ s.pdx.roster ∧
      partHas (pumpSlot i) s = true ∧ s.pdx.pumps[i].fresh = .fresh ∧ restElapsed i s = true ∧
      (pruned i s).length < s.pdx.config[i].startLimit ∧ claimGranted (.pump i) (selectStart s) = true ∧
      (∀ j : Fin 6, pumpInstalled j s = true → s.pdx.pumps[j].state ≠ .starting) ∧
      (∀ j : Fin 6, s.pdx.pumps[j].powerWait = false) ∧ engagedCount s < s.pdx.demand) ∧
    (∀ i j : Fin 6, (selectStart s).pdx.pumps[i].state ≠ s.pdx.pumps[i].state →
      (selectStart s).pdx.pumps[j].state ≠ s.pdx.pumps[j].state → i = j) ∧
    (selectStart s).pdx.roster = s.pdx.roster ∧ (selectStart s).psq = s.psq ∧ (selectStart s).lse = s.lse) ∧
  ∀ (s : State) (front back : List (Fin 6)) (i : Fin 6),
    s.pdx.roster = front ++ i :: back → (∀ j ∈ front, ¬Startable j s) → Startable i s →
    anyStarting s = false → (∀ j : Fin 6, s.pdx.pumps[j].powerWait = false) → engagedCount s < s.pdx.demand →
    holdsClaim (.pump i) s = false →
      let t := selectStart s
      (wouldGrant (.pump i) s.pdx.config[i].ratedPower s = true →
        t.pdx.pumps[i].state = .starting ∧ t.pdx.pumps[i].origin = some .engine ∧
        t.pdx.pumps[i].starts = (s.pdx.pumps[i].starts.filter fun t => (s.uptime - t).toNat < 3600) ++ [s.uptime] ∧
        t.pdx.pumps[i].spinUp = some s.pdx.config[i].spinUp ∧
        (pumpInstalled i s = true → t.cfl.slots[pumpSlot i].target = some 1)) ∧
      (wouldGrant (.pump i) s.pdx.config[i].ratedPower s = false →
        t.pdx.pumps[i].state = .idle ∧ t.pdx.pumps[i].powerWait = true ∧ holdsClaim (.pump i) t = true ∧
        claimGranted (.pump i) t = false ∧ t.cfl = s.cfl)

/-- R54 and R57. A dispatch examines the power-waiting pump, pruning its starts list. While it meets the conditions of a start
and demand still exceeds the engaged pumps, the wait continues; where its claim was given back it asks again, and a grant
starts it, or is given back while a pump is STARTING (log 28). Else the wait ends: the flag is cleared and the claim released.
A reported grant does the same: the pump starts, the grant is given back with the flag still set while another pump is
STARTING, or the wait ends. A withdrawal stops a pump that is up with the cause SHED, whatever its minimum run; one that finds
no claim changes nothing. The age of a start and the rest since the last stop are differences of uptimes modulo 2^32, the
model's reading (log 10). -/
def Obligations.PowerWait : Prop :=
  ∀ (s : State) (i : Fin 6),
    let p := s.pdx.pumps[i]
    let recent := p.starts.filter fun t => (s.uptime - t).toNat < 3600
    let examined : State := { s with pdx.pumps := s.pdx.pumps.set i { p with
      starts := recent, limited := p.limited && decide (s.pdx.config[i].startLimit ≤ recent.length) } }
    let may : Prop := i ∈ s.pdx.roster ∧ Startable i s ∧ engagedCount s < s.pdx.demand
    let starting : Prop := ∃ j : Fin 6, pumpInstalled j s = true ∧ s.pdx.pumps[j].state = .starting
    let started : State → State := fun u => pumpAnnounced i .idle .start <| engineWrite (pumpSlot i) 1 { u with
      pdx.pumps := u.pdx.pumps.set i { u.pdx.pumps[i] with
        state := .starting, starts := recent ++ [s.uptime], origin := some .engine, powerWait := false,
        spinUp := some s.pdx.config[i].spinUp } }
    let ended : State := release (.pump i) { examined with
      pdx.pumps := examined.pdx.pumps.set i { examined.pdx.pumps[i] with powerWait := false } }
    let asked := askWaiting (.pump i) s.pdx.config[i].ratedPower examined
    (p.powerWait = true → (∀ j : Fin 6, j < i → s.pdx.pumps[j].powerWait = false) →
      (¬may → reexamine s = ended) ∧
      (may → holdsClaim (.pump i) s = true → reexamine s = examined) ∧
      (may → holdsClaim (.pump i) s = false →
        (claimGranted (.pump i) asked = false → reexamine s = asked) ∧
        (claimGranted (.pump i) asked = true → starting → reexamine s = release (.pump i) asked) ∧
        (claimGranted (.pump i) asked = true → ¬starting → reexamine s = started asked))) ∧
    ((∀ j : Fin 6, s.pdx.pumps[j].powerWait = false) → reexamine s = s) ∧
    (p.powerWait = true → claimGranted (.pump i) s = true →
      (starting → pumpGranted i s = release (.pump i) s) ∧ (¬starting → may → pumpGranted i s = started examined) ∧
      (¬starting → ¬may → pumpGranted i s = ended)) ∧
    (¬(p.powerWait = true ∧ claimGranted (.pump i) s = true) → pumpGranted i s = s) ∧
    ((p.state = .starting ∨ p.state = .running) → holdsClaim (.pump i) s = true →
      pumpWithdrawn i s = pumpAnnounced i p.state .shed { writeSlot (pumpSlot i) 0 .shed s with
        pdx.pumps := s.pdx.pumps.set i { p with
          state := .stopping, stopCause := some .shed, runSince := none, spinUp := none, minRun := none,
          stopConfirm := some s.pdx.config[i].stopConfirm } }) ∧
    ((p.state ≠ .starting ∧ p.state ≠ .running) ∨ holdsClaim (.pump i) s = false → pumpWithdrawn i s = s) ∧
    runTask (.claim (.pump i) true) s = post (.dispatch false) (pumpGranted i s) ∧
    runTask (.claim (.pump i) false) s = post (.dispatch false) (pumpWithdrawn i s)

/-- What the SIU's delivery for a starter does (R46): its freshness first, then its report (R127, R135), then a dispatch if the
freshness changed (R45). Each report is kept. By the pump's state: STARTING and running, RUNNING with its minimum run (R48);
RUNNING and not running, IDLE by an unbidden stop (R49); STOPPING and not running, IDLE, and the roster head that was stopped
for DEMAND moves to the tail (R50, R56); IDLE and running, adopted: RUNNING with the claim granted at once, STOPPING where it
is not or where the pump is locked under PART, the origin then left as it was, the model's choice (R60, log 47); FAULTED, the
claim is released, kept or asked for, also at a tripped report (R51, log 28). A tripped report faults a pump in any other
state, and a STALE starter one that is STARTING or RUNNING (R51). -/
def Obligations.StarterReports : Prop :=
  (∀ (s : State) (i : Fin 6) (f : Half),
    let p := s.pdx.pumps[i]
    let c := s.pdx.config[i]
    let running : Bool := f.getLsbD 0
    let tripped : Bool := f.getLsbD 1
    let put : Pump → State := fun q => { s with pdx.pumps := s.pdx.pumps.set i { q with report := some f } }
    let rested := release (.pump i) (put { p with
      state := .idle, fault := none, stopCause := none, runSince := none, minRun := none, stopConfirm := none,
      lastStop := some s.uptime, rest := some c.minRest })
    let met : Prop := withinGrant (.pump i) c.ratedPower s = true ∨ wouldGrant (.pump i) c.ratedPower s = true
    let own : Bool := partHas (pumpSlot i) s
    let adopted := askWaiting (.pump i) c.ratedPower (put { p with powerWait := false })
    let stopping : StopCause → PumpCause → State → State := fun why cause u => pumpAnnounced i .idle cause { u with
      pdx.pumps := s.pdx.pumps.set i { p with
        report := some f, powerWait := false, state := .stopping, stopCause := some why, runSince := none, spinUp := none,
        minRun := none, stopConfirm := some c.stopConfirm } }
    let t := starterReport i f s
    ((p.state = .idle ∨ p.state = .starting) → running = false → tripped = false → t = put p) ∧
    ((p.state = .running ∨ p.state = .stopping) → running = true → tripped = false → t = put p) ∧
    (p.state = .starting → running = true → tripped = false → t = pumpAnnounced i .starting .feedback (put { p with
      state := .running, spinUp := none, runSince := some s.uptime, minRun := some c.minRun })) ∧
    (p.state = .running → running = false → tripped = false → t = pumpAnnounced i .running .unbidden rested) ∧
    (p.state = .stopping → running = false → tripped = false → t = pumpAnnounced i .stopping .feedback
      (if p.stopCause = some .demand ∧ s.pdx.roster.head? = some i ∧ own = true
        then { rested with pdx.roster := s.pdx.roster.tail ++ [i] } else rested)) ∧
    (p.state = .idle → running = true → tripped = false →
      (¬met → t = stopping .denied .denied
        (writeSlot (pumpSlot i) 0 .shed (release (.pump i) (put { p with powerWait := false })))) ∧
      (met → s.pdx.lockoutSet[i] = true → own = true → t = stopping .lock .lock (engineWrite (pumpSlot i) 0 adopted)) ∧
      (met → ¬(s.pdx.lockoutSet[i] = true ∧ own = true) → t = pumpAnnounced i .idle .adoption { adopted with
        pdx.pumps := s.pdx.pumps.set i { p with
          report := some f, powerWait := false, state := .running, spinUp := none, runSince := some s.uptime,
          minRun := some c.minRun, origin := some (if own then .engine else .supervisor) } }) ∧
      (wouldGrant (.pump i) c.ratedPower s = true → claimGranted (.pump i) t = true)) ∧
    (tripped = true → p.state ≠ .faulted → t = faultedPump i .trip running (put p)) ∧
    (p.state = .faulted → running = false → t =
      if holdsClaim (.pump i) s = true then post (.dispatch false) (release (.pump i) (put p)) else put p) ∧
    (p.state = .faulted → running = true →
      (holdsClaim (.pump i) s = true → t = put p) ∧
      (holdsClaim (.pump i) s = false → wouldGrant (.pump i) c.ratedPower s = true →
        t = askWaiting (.pump i) c.ratedPower (put p)) ∧
      (holdsClaim (.pump i) s = false → wouldGrant (.pump i) c.ratedPower s = false →
        t = engineWrite (pumpSlot i) 0 (put p)))) ∧
  ∀ (s : State) (i : Fin 6) (f : Freshness) (d : Delivery),
    let p := s.pdx.pumps[i]
    let told : State := { s with pdx.pumps := s.pdx.pumps.set i { p with fresh := f } }
    let t := takeDelivery (.starter i) d s
    (f = .stale → (p.state = .starting ∨ p.state = .running) →
      starterFresh i f s = faultedPump i .silent (p.report.any (·.getLsbD 0)) told) ∧
    (f ≠ .stale ∨ (p.state ≠ .starting ∧ p.state ≠ .running) → starterFresh i f s = told) ∧
    (d.fresh = none → d.value.isSome = true → t = starterReport i d.flags s) ∧
    (d.fresh = some f → d.value = none → t = post (.dispatch true) (starterFresh i f s)) ∧
    (d.fresh = some f → d.value.isSome = true → t = post (.dispatch true) (starterReport i d.flags (starterFresh i f s)))

/-- LOCK_PUMP and UNLOCK_PUMP of an installed pump, and the hand-over of a pump's authority (R58, R61, R62). LOCK PUMP takes
the pump from the roster or the fault set into the lockout set; a STARTING or RUNNING one goes to STOPPING with the cause LOCK,
the stop target written and the stop-confirm timer running, any other keeps its state; a power-wait ends. It is refused with
AUTHORITY for a pump that is up under SUPERVISOR authority; of a pump already locked it is OK, also, by the model's reading
(log 28), where that pump is up under SUPERVISOR. UNLOCK PUMP puts a FAULTED pump into the fault set and any other at the
roster's tail, and changes no pump. A dispatch follows each. A pump that becomes PART while locked and up stops with the cause
LOCK; one that becomes SUPERVISOR ends its power-wait; else a change of authority leaves the pump as it is; C_avail and a
dispatch follow in each case. -/
def Obligations.LockAndUnlock : Prop :=
  (∀ (s : State) (x : Byte) (i : Fin 6), Ready s → RosterSound s → pumpIndex x.toNat s = some i →
    let p := s.pdx.pumps[i]
    (s.pdx.lockoutSet[i] = false → (partHas (pumpSlot i) s = true ∨ p.up = false) → ∃ u, exec (.lockPump x) s = .next (settle u) ∧
        (settle u).pdx.lockoutSet = s.pdx.lockoutSet.set i true ∧ (settle u).pdx.roster.contains i = false ∧
        (settle u).pdx.faultSet[i] = false ∧ (settle u).tables = s.tables ∧
        u.pdx.roster = s.pdx.roster.filter (· ≠ i) ∧ u.pdx.faultSet = s.pdx.faultSet.set i false ∧
        u.pdx.lockoutSet = s.pdx.lockoutSet.set i true ∧ (∀ j : Fin 6, j ≠ i → u.pdx.pumps[j] = s.pdx.pumps[j]) ∧
        (p.up = true → u.pdx.pumps[i] = { p with
            state := .stopping, stopCause := some .lock, runSince := none, spinUp := none, minRun := none,
            stopConfirm := some s.pdx.config[i].stopConfirm, powerWait := false } ∧
          u.cfl.slots = s.cfl.slots.set (pumpSlot i) { s.cfl.slots[pumpSlot i] with
            target := some 0, pending := true, source := some .engine, cls := some .safety } ∧
          (p.powerWait = false →
            u.lif = (emit .pumpState i.val PumpState.stopping.code p.state.code PumpCause.lock.code s).lif)) ∧
        (p.up = false → u.pdx.pumps[i] = { p with powerWait := false } ∧ u.cfl = s.cfl) ∧
        (p.powerWait = true → holdsClaim (.pump i) u = false) ∧
        (p.powerWait = false → u.lda.claims = s.lda.claims) ∧ CapacityHeld u ∧
        u.agenda.drop (u.agenda.length - 2) = [.dispatch true, .reply 16 x.toNat (pumpOk i)]) ∧
    (s.pdx.lockoutSet[i] = false → partHas (pumpSlot i) s = false → p.up = true →
      exec (.lockPump x) s = .next (placeReply 16 x.toNat (refused .authority 0) s)) ∧
    (s.pdx.lockoutSet[i] = true → ∃ u, exec (.unlockPump x) s = .next (settle u) ∧
        (settle u).pdx.lockoutSet = s.pdx.lockoutSet.set i false ∧
        ((settle u).pdx.roster.contains i != (settle u).pdx.faultSet[i]) = true ∧ (settle u).tables = s.tables ∧
        u.pdx.lockoutSet = s.pdx.lockoutSet.set i false ∧ u.pdx.pumps = s.pdx.pumps ∧ u.cfl = s.cfl ∧
        u.lda.claims = s.lda.claims ∧ u.lif = s.lif ∧
        (p.state = .faulted → u.pdx.roster = s.pdx.roster ∧ u.pdx.faultSet = s.pdx.faultSet.set i true) ∧
        (p.state ≠ .faulted → u.pdx.roster = s.pdx.roster ++ [i] ∧ u.pdx.faultSet = s.pdx.faultSet) ∧ CapacityHeld u ∧
        u.agenda = [.dispatch true, .reply 17 x.toNat (pumpOk i)]) ∧
    (s.pdx.lockoutSet[i] = true → exec (.lockPump x) s = .next (placeReply 16 x.toNat (pumpOk i) s)) ∧
    (s.pdx.lockoutSet[i] = false → exec (.unlockPump x) s = .next (placeReply 17 x.toNat (pumpOk i) s))) ∧
  ∀ (s : State) (i : Fin 6),
    let p := s.pdx.pumps[i]
    let put : Pump → State := fun q => { s with pdx.pumps := s.pdx.pumps.set i q }
    let told : State → State := fun u => { recomputeCAvail u with agenda := u.agenda ++ [.dispatch true] }
    let t := runTask (.authority (pumpSlot i)) s
    (partHas (pumpSlot i) s = true → s.pdx.lockoutSet[i] = true → p.up = true → pumpInstalled i s = true →
      t = told (pumpAnnounced i p.state .lock { put { p with
          state := .stopping, stopCause := some .lock, runSince := none, spinUp := none, minRun := none,
          stopConfirm := some s.pdx.config[i].stopConfirm } with
        cfl.slots := s.cfl.slots.set (pumpSlot i) { s.cfl.slots[pumpSlot i] with
          target := some 0, pending := true, source := some .engine, cls := some .safety } })) ∧
    (partHas (pumpSlot i) s = true → s.pdx.lockoutSet[i] = false ∨ p.up = false → t = told s) ∧
    (partHas (pumpSlot i) s = false → p.powerWait = true → t = told (release (.pump i) (put { p with powerWait := false }))) ∧
    (partHas (pumpSlot i) s = false → p.powerWait = false → t = told s)

/-- CLEAR_FAULT and ROTATE of an installed pump (R63, R64), their refusals, and the refusal of an index that is no installed
pump in the four pump requests (R170, R181). CLEAR FAULT is taken for a FAULTED pump whose starter is FRESH and whose last
report is present with the running and the tripped flag clear; else it is refused with NOT_READY, the detail the first that
holds of 1, the pump not FAULTED, 2, its starter not FRESH, 3, no last report, and 4, a flag set. -/
def Obligations.ClearFaultAndRotate : Prop :=
  (∀ (s : State) (x : Byte) (i : Fin 6), Ready s → pumpIndex x.toNat s = some i →
    (faultClearable i s = true →
      ∃ u, exec (.clearFault x) s = .next (settle u) ∧ u.pdx.pumps[i].state = .idle ∧ u.pdx.pumps[i].fault = none ∧
        u.pdx.pumps[i].lastStop = some s.uptime ∧ u.pdx.pumps[i].rest = some s.pdx.config[i].minRest ∧
        holdsClaim (.pump i) u = false ∧ u.pdx.lockoutSet = s.pdx.lockoutSet ∧
        u.pdx.faultSet = s.pdx.faultSet.set i false ∧
        (s.pdx.faultSet[i] = true → u.pdx.roster = s.pdx.roster.filter (· ≠ i) ++ [i]) ∧
        (s.pdx.faultSet[i] = false → u.pdx.roster = s.pdx.roster) ∧
        (∀ j : Fin 6, j ≠ i → u.pdx.pumps[j] = s.pdx.pumps[j]) ∧ u.tables = s.tables ∧ u.cfl = s.cfl) ∧
    (faultClearable i s = false →
      exec (.clearFault x) s = .next (placeReply 18 x.toNat (refused .notReady (clearFaultDetail i s)) s)) ∧
    (i ∈ s.pdx.roster →
      ∃ u, exec (.rotate x) s = .next (settle u) ∧ u.pdx.roster = i :: s.pdx.roster.filter (· ≠ i) ∧
        u.pdx.pumps = s.pdx.pumps ∧ u.pdx.faultSet = s.pdx.faultSet ∧ u.pdx.lockoutSet = s.pdx.lockoutSet ∧
        u.tables = s.tables ∧ u.cfl = s.cfl) ∧
    (i ∉ s.pdx.roster → exec (.rotate x) s = .next (placeReply 19 x.toNat (refused .notReady 0) s))) ∧
  (∀ (s : State) (x : Byte), Ready s → pumpIndex x.toNat s = none →
    exec (.lockPump x) s = .next (placeReply 16 x.toNat (refused .range 1) s) ∧
    exec (.unlockPump x) s = .next (placeReply 17 x.toNat (refused .range 1) s) ∧
    exec (.clearFault x) s = .next (placeReply 18 x.toNat (refused .range 1) s) ∧
    exec (.rotate x) s = .next (placeReply 19 x.toNat (refused .range 1) s)) ∧
  ∀ (s : State) (i : Fin 6),
    let p := s.pdx.pumps[i]
    (faultClearable i s = true ↔ p.state = .faulted ∧ p.fresh = .fresh ∧
      (p.report.any fun f => f.getLsbD 0 = false ∧ f.getLsbD 1 = false) = true) ∧
    clearFaultDetail i s =
      if p.state ≠ .faulted then 1 else if p.fresh ≠ .fresh then 2 else if p.report = none then 3 else 4

/-- The timers of a pump. SPIN_UP and STOP_CONFIRM: the pump is FAULTED with its reason, out of the roster, with every timer of it
stopped and its report, starts, last stop, origin and freshness as they were (R48, R50, R51). MINIMUM_RUN, REST and LIMIT: the
timer stops and a dispatch is made (R40, R45, R49). A timer that is stopped, or has seconds left, has no expiry to take (log
6). -/
def Obligations.PumpTimers : Prop :=
  ∀ (s : State) (i : Fin 6), Quiet s →
    (s.pdx.pumps[i].spinUp = some 0 → s.pdx.pumps[i].state = .starting →
      ∃ u, exec (.spinUpExpiry i.val) s = .next (settle u) ∧
        u.pdx.pumps[i] = { s.pdx.pumps[i] with
          state := .faulted, fault := some .startFail, runSince := none, stopCause := none, powerWait := false,
          spinUp := none, stopConfirm := none, minRun := none, rest := none, limit := none } ∧
        i ∉ u.pdx.roster ∧ (i ∈ s.pdx.roster → u.pdx.faultSet[i] = true) ∧
        (partHas (pumpSlot i) s = true → pumpInstalled i s = true → u.cfl.slots[pumpSlot i].target = some 0) ∧
        (∀ j : Fin 6, j ≠ i → u.pdx.pumps[j] = s.pdx.pumps[j]) ∧ u.tables = s.tables) ∧
    (s.pdx.pumps[i].stopConfirm = some 0 → s.pdx.pumps[i].state = .stopping →
      ∃ u, exec (.stopConfirmExpiry i.val) s = .next (settle u) ∧
        u.pdx.pumps[i] = { s.pdx.pumps[i] with
          state := .faulted, fault := some .stopFail, runSince := none, stopCause := none, powerWait := false,
          spinUp := none, stopConfirm := none, minRun := none, rest := none, limit := none } ∧
        i ∉ u.pdx.roster ∧ (i ∈ s.pdx.roster → u.pdx.faultSet[i] = true) ∧ u.cfl = s.cfl ∧
        (∀ j : Fin 6, j ≠ i → u.pdx.pumps[j] = s.pdx.pumps[j]) ∧ u.tables = s.tables) ∧
    (s.pdx.pumps[i].minRun = some 0 → exec (.minimumRunExpiry i.val) s =
      .next (settle (dispatch { s with pdx.pumps := s.pdx.pumps.set i { s.pdx.pumps[i] with minRun := none } }))) ∧
    (s.pdx.pumps[i].rest = some 0 → exec (.restExpiry i.val) s =
      .next (settle (dispatch { s with pdx.pumps := s.pdx.pumps.set i { s.pdx.pumps[i] with rest := none } }))) ∧
    (s.pdx.pumps[i].limit = some 0 → exec (.limitTimerExpiry i.val) s =
      .next (settle (dispatch { s with pdx.pumps := s.pdx.pumps.set i { s.pdx.pumps[i] with limit := none } }))) ∧
    (s.pdx.pumps[i].spinUp ≠ some 0 → exec (.spinUpExpiry i.val) s = .next s) ∧
    (s.pdx.pumps[i].stopConfirm ≠ some 0 → exec (.stopConfirmExpiry i.val) s = .next s) ∧
    (s.pdx.pumps[i].minRun ≠ some 0 → exec (.minimumRunExpiry i.val) s = .next s) ∧
    (s.pdx.pumps[i].rest ≠ some 0 → exec (.restExpiry i.val) s = .next s) ∧
    (s.pdx.pumps[i].limit ≠ some 0 → exec (.limitTimerExpiry i.val) s = .next s)

/-! ## The load account -/

/-- A walk (R72) grants a prefix of the walk order that fits the limit, the longest there is, and every later claim waits;
owners and amounts stay. The walk order is all the claims: bands 1 to 5 in turn, inside a band the GRANTED ones first, and each
in band order (R70, R71): portals and floors by number, pumps in roster order and then by index, uppers by shed priority and
then by zone number. A walk offers SHED for each withdrawal, reports each grant and withdrawal, recomputes the allowance and
C_avail (R78), and moves nothing else. -/
def Obligations.WalkGrantsLongestPrefix : Prop :=
  (∀ (o : Option Owner) (s : State), ∃ n : Nat,
    let order := walkOrder s s.lda.claims
    (walk o s).lda.claims = (order.take n).map (fun c => { c with granted := true }) ++
      (order.drop n).map (fun c => { c with granted := false }) ∧
    ((order.take n).map (·.amount)).sum ≤ tierLimit s ∧ grantedSum (walk o s).lda.claims ≤ tierLimit s ∧
    ∀ c ∈ (order.drop n).head?, tierLimit s < ((order.take n).map (·.amount)).sum + c.amount) ∧
  (∀ (s : State) (cs : List Claim),
    (cs.map (·.owner)).Nodup → s.pdx.roster.Nodup → (∀ z : Fin 8, s.lse.config[z].shedPriority ≤ 8) →
    (walkOrder s cs).Perm cs ∧ (walkOrder s cs).Pairwise (WalksBefore s)) ∧
  ∀ (o : Option Owner) (s : State), WalkLeaves o s.lda.claims s (walk o s)

/-- The asks and releases of the load account (R73-R76) and the pumping capacity (R78). A waiting ask enters a WAITING claim,
or gives the claim that is held its new amount, and walks; it takes no claim of its own band or above from its owner, where the
granted claims are the head of the list (R72). An ask at once is granted where a waiting ask would leave the claim GRANTED, or
where a GRANTED claim has the amount already, and then walks; else nothing changes. An amount that the claim has already is no
change. A release takes the claim from the list and walks, and withdraws nothing; without a claim it changes nothing. C_avail
adds the rated flows of the available pumps from the roster's head while their running power is within the allowance. That an
asker takes no report of its own claim is the model's reading (log 31). -/
def Obligations.AsksAndReleases : Prop :=
  (∀ (s : State) (o : Owner) (n : Nat),
    let entered : List Claim := if (claimOf o s.lda.claims).isSome = true
      then s.lda.claims.map fun c => if c.owner = o then { c with amount := n } else c
      else s.lda.claims ++ [{ owner := o, amount := n, granted := false }]
    let t := askWaiting o n s
    let u := askAtOnce o n s
    WalkLeaves (some o) entered s t ∧
    u.1 = (claimGranted o t || (claimOf o s.lda.claims).any fun c => c.granted && n ≤ c.amount) ∧
    (u.1 = true → u.2 = t) ∧ (u.1 = false → u.2 = s) ∧
    ((claimOf o s.lda.claims).any (fun c => c.amount = n) = true → handClaim o n s = s) ∧
    ((claimOf o s.lda.claims).any (fun c => c.amount = n) = false → handClaim o n s = t)) ∧
  (∀ (s : State) (o : Owner),
    (claimOf o s.lda.claims = none → release o s = s) ∧
    ((claimOf o s.lda.claims).isSome = true →
      WalkLeaves (some o) (s.lda.claims.filter fun c => c.owner ≠ o) s (release o s) ∧ holdsClaim o (release o s) = false)) ∧
  (∀ (s : State) (o : Owner) (n : Nat) (c : Claim), GrantedHead s → grantedSum s.lda.claims ≤ tierLimit s →
    (s.lda.claims.map (·.owner)).Nodup → s.pdx.roster.Nodup → (∀ z : Fin 8, s.lse.config[z].shedPriority ≤ 8) →
    c ∈ s.lda.claims → c.granted = true → c.owner ≠ o →
    (claimOf o s.lda.claims = none → c.owner.band ≤ o.band → claimGranted c.owner (askWaiting o n s) = true) ∧
    claimGranted c.owner (release o s) = true) ∧
  ∀ s : State,
    let t := recomputeCAvail s
    CapacityHeld t ∧ t = { s with lda.allowance := t.lda.allowance, lda.cAvail := t.lda.cAvail, sau.cAvail := t.sau.cAvail }

/-- The granted claims stay within the limit of the tier, and the signal reserve stays granted, at every step (R69, R70, R72).
The granted claims stay the head of the bands: no claim waits in an earlier band than a granted one (R72). -/
def Obligations.LoadKept : Prop :=
  (∀ s t : State, LoadSound s → step s = .next t → LoadSound t) ∧
  ∀ s t : State, GrantedHead s → step s = .next t → GrantedHead t

/-- The supply (R65-R68). A tier derivation gives the tier of the copies. A change offers TIER with the two tiers, the one
before in the low byte of its aux (log 15), ahead of the events of its walk, leaves the granted claims within the limit of the
new tier, hands C_avail to the SAU and tells the CFL last; the same tier changes nothing. A delivery of the supply node keeps
the mains, the generator or the battery value and derives the tier. The battery class moves by the critical and cutoff
thresholds, and out of a class by 100 mV more. BATTERY_LOW is offered once, on the tier BATTERY below the low threshold, and
may be again after 100 mV above it (its units are the free value of log 9 where the value is no whole number of them). -/
def Obligations.TierDerivation : Prop :=
  (∀ s : State,
    (s.lda.mains = none → deriveTier s = s) ∧
    (∀ m : Int, s.lda.mains = some m → m ≠ 0 → (deriveTier s).lda.tier = .mains) ∧
    (s.lda.mains = some 0 → s.lda.generator = some 1 → (deriveTier s).lda.tier = .generator) ∧
    (s.lda.mains = some 0 → s.lda.generator ≠ some 1 → (deriveTier s).lda.tier =
      (match s.lda.cls with
        | .normal => .battery
        | .critical => .critical
        | .depleted => .depleted)) ∧
    ((deriveTier s).lda.tier ≠ s.lda.tier →
      (∃ sheds : List QueueEntry, (deriveTier s).lif.queue =
        (emit .tier 0 (deriveTier s).lda.tier.code 0 s.lda.tier.code s).lif.queue ++ sheds ∧
        ∀ e ∈ sheds, e.kind = .event) ∧
      (22 < s.lif.queue.length → (deriveTier s).lif.eventsLost = true) ∧
      grantedSum (deriveTier s).lda.claims ≤ s.lda.limits.ofTier (deriveTier s).lda.tier ∧
      (deriveTier s).agenda.getLast? = some (.tier (deriveTier s).lda.tier) ∧
      (deriveTier s).sau.cAvail = (deriveTier s).lda.cAvail) ∧
    ((deriveTier s).lda.tier = s.lda.tier → deriveTier s = s)) ∧
  (∀ (l : Limits) (before : BatteryClass) (v : Int), l.cutoffMv < l.criticalMv →
    let c := classOf l before false v
    (before = .normal → ((l.criticalMv : Int) ≤ v → c = .normal) ∧
      (v < l.criticalMv → (l.cutoffMv : Int) ≤ v → c = .critical) ∧ (v < l.cutoffMv → c = .depleted)) ∧
    (before = .critical → ((l.criticalMv : Int) + 100 ≤ v → c = .normal) ∧
      (v < (l.criticalMv : Int) + 100 → (l.cutoffMv : Int) ≤ v → c = .critical) ∧ (v < l.cutoffMv → c = .depleted)) ∧
    (before = .depleted → ((l.criticalMv : Int) + 100 ≤ v → c = .normal) ∧
      (v < (l.criticalMv : Int) + 100 → (l.cutoffMv : Int) + 100 ≤ v → c = .critical) ∧
      (v < (l.cutoffMv : Int) + 100 → c = .depleted)) ∧
    classOf l before true v = classOf l .normal false v ∧
    (∀ s : State, (takeBattery v s).lda.cls = classOf s.lda.limits s.lda.cls s.lda.battery.isNone v ∧
      (takeBattery v s).lda.battery = some v)) ∧
  (∀ (s : State) (d : Delivery),
    let told : State := { s with lda.fresh := d.fresh.getD s.lda.fresh }
    let t := takeDelivery .supply d s
    (d.value = none → t = told) ∧
    ∀ v ∈ d.value,
      (d.channel = 0 → t = deriveTier { told with lda.mains := some (if v = 0 then 0 else 1) }) ∧
      (d.channel = 1 → t = deriveTier { told with lda.generator := some (if v = 0 then 0 else 1) }) ∧
      (d.channel = 2 → t = deriveTier (takeBattery v told)) ∧ (2 < d.channel → t = told)) ∧
  ∀ (s : State) (v : Int),
    let t := takeBattery v s
    t.lda.cls = classOf s.lda.limits s.lda.cls s.lda.battery.isNone v ∧ t.lda.battery = some v ∧
    (s.lda.tier = .battery → v < s.lda.limits.lowMv → s.lda.low = false →
      t.lda.low = true ∧ (v % 100 = 0 → t.lif = (emit .batteryLow 0 (v / 100) 0 0 s).lif)) ∧
    ((s.lda.limits.lowMv : Int) + 100 ≤ v → t.lda.low = false ∧ t.lif = s.lif) ∧
    (v < (s.lda.limits.lowMv : Int) + 100 → ¬(s.lda.tier = .battery ∧ v < s.lda.limits.lowMv ∧ s.lda.low = false) →
      t.lda.low = s.lda.low ∧ t.lif = s.lif)

/-! ## The gates -/

/-- No gate is in CLOSING while its portal's presence reads occupied, after any step from a state where none is (R92). -/
def Obligations.SweepKept : Prop :=
  ∀ s t : State, SweepSafe s → step s = .next t → SweepSafe t

/-- The completion list and the operations in flight never number more than eight, and the count in flight is the number of
operations that are (R99). -/
def Obligations.OperationsKept : Prop :=
  ∀ s t : State, OperationsSound s → step s = .next t → OperationsSound t

/-- HOME_GATE, MOVE_GATE_OPEN and MOVE_GATE_CLOSE of an installed portal (R87, R99-R101). A refusal changes nothing but its
REPLY. HOME GATE, and MOVE GATE OPEN of a HELD or CLOSED gate, make a motion start: with the claim granted, or granted as it is
asked for, the gate is HOMING toward -1, or OPENING toward 0; with the claim left WAITING it stays in its state with power-wait
set and the operation in flight; where the drive is not FRESH it goes to FAULT and the operation ends EQUIPMENT. MOVE GATE OPEN
makes a WARNING gate OPEN and ends DONE there and in OPEN, turns a CLOSING gate to OPENING with its claim kept, and joins an
open under way. MOVE GATE CLOSE makes an OPEN gate WARNING, gives a HELD gate that has another target its close decision (one
that waits to home too, by log 27), stops and holds an OPENING gate with its claim kept, joins a close under way, and ends DONE
in CLOSED. A gate of another state that lost its position and waits to home takes the row of its state, by the model's choice
(log 51). Each accepted request reserves its slot in the completion list. A refusal is the first that holds of, in order:
PENDING_SENSE, a list entry of a gate operation of the portal; BUSY, an operation in flight on it; of HOME GATE, BUSY in
WARNING, CLOSING, OPENING and HOMING, NOT_READY where the drive is not FRESH or its last report absent or tripped, and POSTURE
in OPEN, HELD and CLOSED under CLOSED; of MOVE GATE, NOT_READY in UNKNOWN, HOMING and FAULT, and of MOVE GATE OPEN alone
POSTURE under CLOSED; LIST_FULL, eight entries and operations together. -/
def Obligations.GateRequests : Prop :=
  (∀ (s : State) (x : Byte) (p : Fin 2), Ready s → portalIndex x.toNat s = some p →
    let g := s.psq.portals[p]
    let c := s.psq.config[p]
    let begins : Prop := claimGranted (.gate p) s = true ∨
      (holdsClaim (.gate p) s = false ∧ wouldGrant (.gate p) c.power s = true)
    let waits : Prop := claimGranted (.gate p) s = false ∧
      (holdsClaim (.gate p) s = true ∨ wouldGrant (.gate p) c.power s = false)
    let closedBy : ClosedBy := if s.psq.posture = .closed then .posture else .request
    let begun : Operation → State → Prop := fun op u => u.psq.portals[p].op = some op ∧
      u.psq.inFlight = s.psq.inFlight + 1 ∧ u.psq.completions = s.psq.completions ∧ u.tables = s.tables ∧ u.pdx = s.pdx
    let ended : Operation → OpOutcome → State → Prop := fun op o u => u.psq.portals[p].op = none ∧
      u.psq.inFlight = s.psq.inFlight ∧ u.psq.completions = s.psq.completions ++
        [{ op := op, target := p.val + 1, outcome := o, detail := g.position, uptime := s.uptime }] ∧
      u.tables = s.tables ∧ u.pdx = s.pdx
    (∀ st ∈ homeRefusal p s, exec (.homeGate x) s = .next (placeReply 11 x.toNat (refused st 0) s)) ∧
    (∀ st ∈ moveOpenRefusal p s, exec (.moveGateOpen x) s = .next (placeReply 12 x.toNat (refused st 0) s)) ∧
    (∀ st ∈ moveCloseRefusal p s, exec (.moveGateClose x) s = .next (placeReply 12 x.toNat (refused st 0) s)) ∧
    (homeRefusal p s = none →
      (begins → ∃ u, exec (.homeGate x) s = .next (settle u) ∧ begun .home u ∧
        u.psq.portals[p].state = .homing ∧ u.psq.portals[p].target = some .home ∧ u.psq.portals[p].fault = none ∧
        u.psq.portals[p].homing = some (c.fullTravel * 9 / 8 + 10) ∧ u.psq.portals[p].powerWait = false ∧
        (partHas (gateSlot p) s = true → u.cfl.slots[gateSlot p].target = some (-1))) ∧
      (waits → ∃ u, exec (.homeGate x) s = .next (settle u) ∧ begun .home u ∧
        u.psq.portals[p] = { g with
          op := some .home, fault := none, target := some .home, powerWait := true, warning := none, clear := none,
          holdLong := none, progress := none, homing := none } ∧
        holdsClaim (.gate p) u = true ∧ claimGranted (.gate p) u = false ∧ u.cfl = s.cfl)) ∧
    (moveOpenRefusal p s = none →
      (g.state = .closed ∨ g.state = .held →
        (g.driveFresh = .fresh → begins → ∃ u, exec (.moveGateOpen x) s = .next (settle u) ∧ begun .moveOpen u ∧
          u.psq.portals[p].state = .opening ∧ u.psq.portals[p].target = some .open ∧
          u.psq.portals[p].closedBy = none ∧ u.psq.portals[p].progress = some c.window ∧
          u.psq.portals[p].clear = none ∧ u.psq.portals[p].holdLong = none ∧ u.psq.portals[p].powerWait = false ∧
          (partHas (gateSlot p) s = true → u.cfl.slots[gateSlot p].target = some 0)) ∧
        (g.driveFresh = .fresh → waits → ∃ u, exec (.moveGateOpen x) s = .next (settle u) ∧ begun .moveOpen u ∧
          u.psq.portals[p] = { g with
          op := some .moveOpen, target := some .open, closedBy := none, warned := false, clear := none,
          holdLong := none, powerWait := true } ∧
          holdsClaim (.gate p) u = true ∧ claimGranted (.gate p) u = false ∧ u.cfl = s.cfl) ∧
        (g.driveFresh ≠ .fresh → ∃ u, exec (.moveGateOpen x) s = .next (settle u) ∧ ended .moveOpen .equipment u ∧
          u.psq.portals[p].state = .fault ∧ u.psq.portals[p].fault = some .driveSilent ∧
          holdsClaim (.gate p) u = false)) ∧
      (g.state = .open → ∃ u, exec (.moveGateOpen x) s = .next (settle u) ∧ ended .moveOpen .done u ∧
        u.psq.portals[p] = g ∧ u.cfl = s.cfl ∧ u.lda = s.lda) ∧
      (g.state = .warning → ∃ u, exec (.moveGateOpen x) s = .next (settle u) ∧ ended .moveOpen .done u ∧
        u.psq.portals[p].state = .open ∧ u.psq.portals[p].target = none ∧ u.psq.portals[p].closedBy = none ∧
        u.psq.portals[p].warned = false ∧ u.psq.portals[p].warning = none ∧ u.psq.portals[p].powerWait = false ∧
        (g.powerWait = true → holdsClaim (.gate p) u = false) ∧ u.cfl = s.cfl) ∧
      (g.state = .closing → ∃ u, exec (.moveGateOpen x) s = .next (settle u) ∧ begun .moveOpen u ∧
        u.psq.portals[p] = { g with
          op := some .moveOpen, state := .opening, target := some .open, closedBy := none, warned := false,
          warning := none, clear := none, holdLong := none, homing := none,
          progress := if g.powerWait = true then none else some c.window } ∧
        u.lda = s.lda ∧ (g.powerWait = true → u.cfl = s.cfl) ∧
        (g.powerWait = false → partHas (gateSlot p) s = true → u.cfl.slots[gateSlot p].target = some 0)) ∧
      (g.state = .opening → ∃ u, exec (.moveGateOpen x) s = .next (settle u) ∧ begun .moveOpen u ∧
        u.psq.portals[p] = { g with op := some .moveOpen } ∧ u.cfl = s.cfl ∧ u.lda = s.lda)) ∧
    (moveCloseRefusal p s = none →
      (g.state = .open → ∃ u, exec (.moveGateClose x) s = .next (settle u) ∧ begun .moveClose u ∧
        u.psq.portals[p].state = .warning ∧ u.psq.portals[p].warning = some c.warning ∧
        u.psq.portals[p].target = some .close ∧ u.psq.portals[p].warned = false ∧
        u.psq.portals[p].closedBy = some closedBy ∧ u.cfl = s.cfl) ∧
      (g.state = .warning ∨ g.state = .closing ∨ (g.state = .held ∧ g.target = some .close) →
        ∃ u, exec (.moveGateClose x) s = .next (settle u) ∧ begun .moveClose u ∧
        u.psq.portals[p] = { g with op := some .moveClose } ∧ u.cfl = s.cfl ∧ u.lda = s.lda) ∧
      (g.state = .held → g.target ≠ some .close → ∃ u, exec (.moveGateClose x) s = .next (settle u) ∧ begun .moveClose u ∧
        u.psq.portals[p] = { g with
          op := some .moveClose, target := some .close, closedBy := some closedBy, powerWait := false,
          clear := if g.presence = .clear then some c.clear else none,
          holdLong := if g.holdLong = none ∧ g.heldLong = false then some c.holdLong else g.holdLong } ∧
        (g.powerWait = true → holdsClaim (.gate p) u = false) ∧ u.cfl = s.cfl) ∧
      (g.state = .opening → ∃ u, exec (.moveGateClose x) s = .next (settle u) ∧ begun .moveClose u ∧
        u.psq.portals[p].state = .held ∧ u.psq.portals[p].target = some .close ∧
        u.psq.portals[p].closedBy = some closedBy ∧ u.psq.portals[p].progress = none ∧
        u.psq.portals[p].powerWait = false ∧ u.psq.portals[p].holdLong = some c.holdLong ∧
        u.psq.portals[p].clear = (if g.presence = .clear then some c.clear else none) ∧
        (g.powerWait = false → claimGranted (.gate p) s = true → u.lda.claims = s.lda.claims) ∧
        (g.powerWait = true → holdsClaim (.gate p) u = false) ∧
        (∀ v ∈ g.reportValue, partHas (gateSlot p) s = true → u.cfl.slots[gateSlot p].target = some v)) ∧
      (g.state = .closed → ∃ u, exec (.moveGateClose x) s = .next (settle u) ∧ ended .moveClose .done u ∧
        u.psq.portals[p] = g ∧ u.cfl = s.cfl ∧ u.lda = s.lda))) ∧
  ∀ (s : State) (p : Fin 2),
    let g := s.psq.portals[p]
    let closed : Bool := s.psq.posture = .closed
    let firstOf : List (Bool × Status) → Option Status := fun tests => (tests.find? fun e => e.1).map fun e => e.2
    let waits : Bool := s.psq.completions.any fun e => (e.op = .home ∨ e.op = .moveOpen ∨ e.op = .moveClose) ∧ e.target = p.val + 1
    let full : Bool := 8 ≤ s.psq.completions.length + s.psq.inFlight
    let moving : Bool := g.state = .warning ∨ g.state = .closing ∨ g.state = .opening ∨ g.state = .homing
    let stopped : Bool := g.state = .open ∨ g.state = .held ∨ g.state = .closed
    let lost : Bool := g.state = .unknown ∨ g.state = .homing ∨ g.state = .fault
    let silent : Bool := g.driveFresh ≠ .fresh ∨ g.reportFlags = none ∨ (g.reportFlags.any fun f => f.getLsbD 3) = true
    homeRefusal p s = firstOf [(waits, .pendingSense), (g.op.isSome, .busy), (moving, .busy), (silent, .notReady),
      (closed && stopped, .posture), (full, .listFull)] ∧
    moveOpenRefusal p s = firstOf [(waits, .pendingSense), (g.op.isSome, .busy), (lost, .notReady), (closed, .posture),
      (full, .listFull)] ∧
    moveCloseRefusal p s = firstOf [(waits, .pendingSense), (g.op.isSome, .busy), (lost, .notReady), (full, .listFull)]

/-- What the SIU's deliveries do to a gate, a drive's freshness before its report (R127, R135). A trip faults it (R97). A gate
in UNKNOWN is adopted OPEN, CLOSED or HELD, with the close decision of a CLOSED posture, or seeks its open limit (R86); one
whose drive has lost its position seeks it from any other state but HOMING and FAULT (R85). HOMING ends OPEN at the open limit,
or in FAULT beyond travel + travel/8 (R89); CLOSING ends CLOSED and OPENING ends OPEN at their limits, with the operation DONE,
and before them another position restarts the progress timer (R92, R96); HELD at the closed limit is CLOSED once the clear time
is over (R94). A claim kept for a stop is released at a report of a still drive, or at STALE (R88); STALE faults a commanded
motion (R97). Presence reads CLEAR or OCCUPIED (R84; a FRESH node without a value reads OCCUPIED by log 23), and a change holds
a gate that closes or waits to close, and starts and stops the timers of a held one (R91, R92, R93). The corners are those of
log 27; an OCCUPIED that holds a CLOSING gate holds one that waits to home too, by the model's choice (log 51); a first STATE
that shows both limits is taken as OPEN by log 45. -/
def Obligations.DriveAndPresence : Prop :=
  (∀ (s : State) (p : Fin 2) (v : Int) (f : Half),
    let g := s.psq.portals[p]
    let c := s.psq.config[p]
    let atOpen : Bool := f.getLsbD 0
    let atClosed : Bool := f.getLsbD 1
    let valid : Bool := f.getLsbD 4
    let here : Int := max 0 (min c.travel v)
    let put : Portal → State := fun q => { s with
      psq.portals := s.psq.portals.set p { q with reportValue := some v, reportFlags := some f } }
    let still : State → State := fun u =>
      if f.getLsbD 2 = false ∧ u.psq.portals[p].state.moving = false ∧ u.psq.portals[p].powerWait = false ∧
        claimGranted (.gate p) u = true then release (.gate p) u else u
    let moved : Option Nat := if g.progress.isSome ∧ g.position ≠ some v then some c.window else g.progress
    let t := driveReport p v f s
    let h := t.psq.portals[p]
    let reached : GateState → Operation → Int → Prop := fun new op at' =>
      h.state = new ∧ h.position = some at' ∧ h.target = none ∧ h.powerWait = false ∧ h.progress = none ∧ h.homing = none ∧
      holdsClaim (.gate p) t = false ∧ .gate p new ∈ t.agenda ∧
      (g.op = some op → h.op = none ∧ t.psq.completions = entriesAfter p .done (some at') s) ∧
      (g.op ≠ some op → h.op = g.op ∧ t.psq.completions = s.psq.completions)
    let warned : Prop := h.state = .warning ∧ h.position = some 0 ∧ h.closedBy = some .posture ∧ h.target = some .close ∧
      h.warning = some c.warning ∧ h.warned = false
    let sought : Prop := h.target = (if g.driveFresh = .fresh then some .home else none) ∧
      (g.driveFresh ≠ .fresh → h.state = .fault ∧ h.fault = some .driveSilent) ∧
      (g.driveFresh = .fresh → claimGranted (.gate p) s = true ∨
          (holdsClaim (.gate p) s = false ∧ wouldGrant (.gate p) c.power s = true) →
        h.state = .homing ∧ h.homing = some (c.fullTravel * 9 / 8 + 10) ∧ h.powerWait = false ∧ h.closedBy = none ∧
        .gate p .homing ∈ t.agenda ∧ (partHas (gateSlot p) s = true → portalInstalled p s = true →
          t.cfl.slots[gateSlot p].target = some (-1))) ∧
      (g.driveFresh = .fresh → claimGranted (.gate p) s = false → holdsClaim (.gate p) s = true ∨
          wouldGrant (.gate p) c.power s = false →
        h.state = g.state ∧ h.powerWait = true ∧ holdsClaim (.gate p) t = true ∧ t.cfl = s.cfl)
    (f.getLsbD 3 = true → g.state ≠ .fault → GateFaulted p .driveTrip (put g) t) ∧
    (g.state = .fault → t = still (put (if valid = true then { g with position := some here } else g))) ∧
    (f.getLsbD 3 = false →
      (g.state = .unknown → g.target = none →
        (valid = true → atOpen = true →
          (s.psq.posture ≠ .closed → t = still (gateAnnounced p .open .adoption (put { g with position := some 0 }))) ∧
          (s.psq.posture = .closed → warned)) ∧
        (valid = true → atOpen = false → atClosed = true → t = still (gateAnnounced p .closed .adoption (put { g with
          position := some c.travel, closedBy := some (if s.psq.posture = .closed then .posture else .request) }))) ∧
        (valid = true → atOpen = false → atClosed = false →
          (s.psq.posture ≠ .closed →
            t = still (gateAnnounced p .held .adoption (put { g with position := some here, heldLong := false }))) ∧
          (s.psq.posture = .closed → h.state = .held ∧ h.position = some here ∧ h.target = some .close ∧
            h.closedBy = some .posture ∧ h.holdLong.isSome = true ∧
            h.clear = (if g.presence = .clear then some c.clear else none))) ∧
        (valid = false → sought)) ∧
      (g.state ≠ .unknown → g.state ≠ .homing → g.state ≠ .fault → valid = false →
        sought ∧ h.position = none ∧ h.warned = false ∧ h.op = none ∧ h.warning = none ∧ h.clear = none ∧
        h.holdLong = none ∧ h.progress = none ∧ t.psq.completions = entriesAfter p .equipment none s) ∧
      (g.state = .homing →
        (valid = true → atOpen = true → s.psq.posture ≠ .closed → reached .open .home 0) ∧
        (valid = true → atOpen = true → s.psq.posture = .closed → warned ∧ holdsClaim (.gate p) t = false) ∧
        (valid = true → atOpen = false → t = put { g with position := some here }) ∧
        (valid = false → ((c.travel + c.travel / 8 : Nat) : Int) < v → GateFaulted p .homeNotFound (put g) t) ∧
        (valid = false → v ≤ ((c.travel + c.travel / 8 : Nat) : Int) → t = put g)) ∧
      (g.state = .closing → valid = true →
        (atClosed = true → reached .closed .moveClose c.travel) ∧
        (atClosed = false → t = put { g with position := some here, progress := moved })) ∧
      (g.state = .opening → valid = true →
        (atOpen = true → reached .open .moveOpen 0) ∧
        (atOpen = false → atClosed = true → t = put { g with position := some here }) ∧
        (atOpen = false → atClosed = false → t = put { g with position := some here, progress := moved })) ∧
      (g.state = .held → valid = true →
        (atClosed = true → g.target = some .close →
          (g.presence = .clear → g.clear = none → reached .closed .moveClose c.travel) ∧
          (g.presence = .occupied ∨ g.clear ≠ none → t = still (put { g with position := some c.travel }))) ∧
        (atClosed = false ∨ g.target ≠ some .close → t = still (put { g with position := some here }))) ∧
      ((g.state = .open ∨ g.state = .warning ∨ g.state = .closed) → valid = true →
        t = still (put { g with position := some here })))) ∧
  (∀ (s : State) (p : Fin 2) (f : Freshness) (d : Delivery),
    let g := s.psq.portals[p]
    let told : State := { s with psq.portals := s.psq.portals.set p { g with driveFresh := f } }
    let t := driveFreshness p f s
    let u := takeDelivery (.drive p) d s
    (f = .stale → g.state.moving = true → g.powerWait = false → GateFaulted p .driveSilent told t) ∧
    (f = .stale → g.state.moving = false → g.powerWait = false → claimGranted (.gate p) s = true →
      t = release (.gate p) told) ∧
    (f ≠ .stale ∨ g.powerWait = true ∨ (g.state.moving = false ∧ claimGranted (.gate p) s = false) → t = told) ∧
    (d.fresh = some f → d.value = none → u = t) ∧ (∀ v ∈ d.value, d.fresh = none → u = driveReport p v d.flags s) ∧
    (∀ v ∈ d.value, d.fresh = some f → u = driveReport p v d.flags t)) ∧
  ∀ (s : State) (p : Fin 2) (d : Delivery),
    let g := s.psq.portals[p]
    let c := s.psq.config[p]
    let now := d.fresh.getD g.presenceFresh
    let value := if d.value.isSome = true then d.value else g.presenceValue
    let reading : Presence :=
      if assigned (.presence p) s = true ∧ ¬(now = .fresh ∧ value = some 0) then .occupied else .clear
    let put : Portal → State := fun q => { s with psq.portals := s.psq.portals.set p { q with
      presenceFresh := now, presenceValue := value, presence := reading } }
    let t := takeDelivery (.presence p) d s
    let held : Prop := t.psq.portals[p] = { g with
          presenceFresh := now, presenceValue := value, presence := .occupied, state := .held, target := some .close,
          heldLong := false, powerWait := false, warning := none, clear := none, progress := none, homing := none,
          holdLong := some c.holdLong } ∧
      .gate p .held ∈ t.agenda ∧ (g.powerWait = true → holdsClaim (.gate p) t = false)
    (reading = g.presence → t = put g) ∧
    (g.presence = .clear → reading = .occupied →
      (g.state = .closing → held ∧
        (g.powerWait = false → claimGranted (.gate p) s = true → t.lda.claims = s.lda.claims) ∧
        (∀ v ∈ g.reportValue, partHas (gateSlot p) s = true → portalInstalled p s = true →
          t.cfl.slots[gateSlot p].target = some v)) ∧
      (g.state = .warning → g.warned = true → g.powerWait = true → held ∧ t.cfl = s.cfl) ∧
      (g.state = .held → g.target = some .close → t = put { g with
          clear := none, holdLong := if g.holdLong = none ∧ g.heldLong = false then some c.holdLong else g.holdLong }) ∧
      (g.state ≠ .closing → ¬(g.state = .warning ∧ g.warned = true ∧ g.powerWait = true) →
        ¬(g.state = .held ∧ g.target = some .close) → t = put g)) ∧
    (g.presence = .occupied → reading = .clear →
      (g.state = .held → g.target = some .close → t = put { g with holdLong := none, clear := some c.clear }) ∧
      (¬(g.state = .held ∧ g.target = some .close) → t = put g))

/-- The timers of a gate, with no seconds left (R87, R89, R91-R94, R96, R97). At the end of the warning the gate is HELD over
an occupied sweep. Over a clear one it starts to close, and so does a HELD gate at the end of the clear time: FAULT where the
drive is not FRESH; else the power is asked for, unless a claim stands, and with the claim granted the gate is CLOSING with its
target written, while with the claim WAITING it stays with power-wait set. A HELD gate whose last report showed the closed
limit is CLOSED at the end of the clear time instead (R94, log 27). HOLD_LONG marks the stay and offers GATE_HELD_LONG with the
portal and the position; a MOVE CLOSE in flight then ends ABNORMAL, its entry with the position and its COMPLETION_READY after
that event (R93; the order of the two is log 41), and nothing else moves. PROGRESS and HOMING end in FAULT with their reasons.
FAULT stops every timer, releases the claim, ends the operation EQUIPMENT and writes the stop target. A timer that is stopped,
or has seconds left, has no expiry to take (log 6). -/
def Obligations.GateTimers : Prop :=
  (∀ (s : State) (p : Fin 2), Quiet s →
    (s.psq.portals[p].warning = some 0 → s.psq.portals[p].state = .warning →
      (s.psq.portals[p].presence = .occupied →
        ∃ u, exec (.warningExpiry (p.val + 1)) s = .next (settle u) ∧ u.psq.portals[p].state = .held ∧
          u.psq.portals[p].target = some .close ∧ u.psq.portals[p].warned = true ∧
          u.psq.portals[p].holdLong = some s.psq.config[p].holdLong ∧ u.cfl = s.cfl ∧ u.tables = s.tables) ∧
      (s.psq.portals[p].presence = .clear → s.psq.portals[p].driveFresh ≠ .fresh →
        ∃ u, exec (.warningExpiry (p.val + 1)) s = .next (settle u) ∧ GateFaulted p .driveSilent s u) ∧
      (s.psq.portals[p].presence = .clear → s.psq.portals[p].driveFresh = .fresh → s.psq.portals[p].target = some .close →
        (claimGranted (.gate p) s = true ∨
          (holdsClaim (.gate p) s = false ∧ wouldGrant (.gate p) s.psq.config[p].power s = true) →
          ∃ u, exec (.warningExpiry (p.val + 1)) s = .next (settle u) ∧ u.psq.portals[p].state = .closing ∧
            u.psq.portals[p].progress = some s.psq.config[p].window ∧ u.psq.portals[p].powerWait = false ∧
            claimGranted (.gate p) u = true ∧ u.tables = s.tables ∧
            (partHas (gateSlot p) s = true → portalInstalled p s = true →
              u.cfl.slots[gateSlot p].target = some (s.psq.config[p].travel : Int))) ∧
        (claimGranted (.gate p) s = false → holdsClaim (.gate p) s = true ∨
            wouldGrant (.gate p) s.psq.config[p].power s = false →
          ∃ u, exec (.warningExpiry (p.val + 1)) s = .next (settle u) ∧ u.psq.portals[p].state = .warning ∧
            u.psq.portals[p].powerWait = true ∧ u.psq.portals[p].warned = true ∧ holdsClaim (.gate p) u = true ∧
            claimGranted (.gate p) u = false ∧ u.cfl = s.cfl ∧ u.tables = s.tables))) ∧
    (s.psq.portals[p].clear = some 0 → s.psq.portals[p].state = .held → s.psq.portals[p].target = some .close →
      (s.psq.portals[p].reportFlags.any closedLimitFlag = true →
        ∃ u, exec (.clearTimerExpiry (p.val + 1)) s = .next (settle u) ∧ u.psq.portals[p].state = .closed ∧
          u.psq.portals[p].position = some (s.psq.config[p].travel : Int) ∧ u.psq.portals[p].target = none ∧
          holdsClaim (.gate p) u = false ∧ u.cfl = s.cfl ∧ u.tables = s.tables) ∧
      (s.psq.portals[p].reportFlags.any closedLimitFlag = false → s.psq.portals[p].driveFresh ≠ .fresh →
        ∃ u, exec (.clearTimerExpiry (p.val + 1)) s = .next (settle u) ∧ GateFaulted p .driveSilent s u) ∧
      (s.psq.portals[p].reportFlags.any closedLimitFlag = false → s.psq.portals[p].presence = .clear →
        s.psq.portals[p].driveFresh = .fresh →
        (claimGranted (.gate p) s = true ∨
          (holdsClaim (.gate p) s = false ∧ wouldGrant (.gate p) s.psq.config[p].power s = true) →
          ∃ u, exec (.clearTimerExpiry (p.val + 1)) s = .next (settle u) ∧ u.psq.portals[p].state = .closing ∧
            u.psq.portals[p].progress = some s.psq.config[p].window ∧ u.psq.portals[p].powerWait = false ∧
            claimGranted (.gate p) u = true ∧ u.tables = s.tables ∧
            (partHas (gateSlot p) s = true → portalInstalled p s = true →
              u.cfl.slots[gateSlot p].target = some (s.psq.config[p].travel : Int))) ∧
        (claimGranted (.gate p) s = false → holdsClaim (.gate p) s = true ∨
            wouldGrant (.gate p) s.psq.config[p].power s = false →
          ∃ u, exec (.clearTimerExpiry (p.val + 1)) s = .next (settle u) ∧ u.psq.portals[p].state = .held ∧
            u.psq.portals[p].powerWait = true ∧ u.psq.portals[p].clear = none ∧ holdsClaim (.gate p) u = true ∧
            claimGranted (.gate p) u = false ∧ u.cfl = s.cfl ∧ u.tables = s.tables))) ∧
    (s.psq.portals[p].holdLong = some 0 → s.psq.portals[p].state = .held →
      ∃ u, exec (.holdLongExpiry (p.val + 1)) s = .next (settle u) ∧ u.psq.portals[p].state = .held ∧
        u.psq.portals[p].heldLong = true ∧ u.psq.portals[p].holdLong = none ∧
        u.psq.portals[p].target = s.psq.portals[p].target ∧ u.cfl = s.cfl ∧ u.tables = s.tables) ∧
    (s.psq.portals[p].progress = some 0 → s.psq.portals[p].state.moving = true →
      ∃ u, exec (.progressTimerExpiry (p.val + 1)) s = .next (settle u) ∧ GateFaulted p .noProgress s u) ∧
    (s.psq.portals[p].homing = some 0 → s.psq.portals[p].state = .homing →
      ∃ u, exec (.homingTimerExpiry (p.val + 1)) s = .next (settle u) ∧ GateFaulted p .homeNotFound s u) ∧
    (s.psq.portals[p].warning ≠ some 0 → exec (.warningExpiry (p.val + 1)) s = .next s) ∧
    (s.psq.portals[p].clear ≠ some 0 → exec (.clearTimerExpiry (p.val + 1)) s = .next s) ∧
    (s.psq.portals[p].holdLong ≠ some 0 → exec (.holdLongExpiry (p.val + 1)) s = .next s) ∧
    (s.psq.portals[p].progress ≠ some 0 → exec (.progressTimerExpiry (p.val + 1)) s = .next s) ∧
    (s.psq.portals[p].homing ≠ some 0 → exec (.homingTimerExpiry (p.val + 1)) s = .next s)) ∧
  ∀ (s : State) (p : Fin 2), Quiet s → s.psq.portals[p].holdLong = some 0 → s.psq.portals[p].state = .held →
    let g := s.psq.portals[p]
    let told : State := emit .gateHeldLong (p.val + 1) (g.position.getD (-2147483648)) 0 0 { s with
      psq.portals := s.psq.portals.set p { g with holdLong := none, heldLong := true } }
    (g.op ≠ some .moveClose → exec (.holdLongExpiry (p.val + 1)) s = .next told) ∧
    (g.op = some .moveClose → exec (.holdLongExpiry (p.val + 1)) s =
      .next (emit .completionReady (p.val + 1) 0 Operation.moveClose.code OpOutcome.abnormal.code { told with
        psq.portals := s.psq.portals.set p { g with holdLong := none, heldLong := true, op := none }
        psq.inFlight := s.psq.inFlight - 1
        psq.completions := entriesAfter p .abnormal g.position s }))

/-- What a posture announcement and the reports of its claim do to a gate (R87, R88, R90, R95). At CLOSED every installed gate
makes its close decision, and at REOPEN its open decision where the posture closed it; portal 1 goes first, the model's choice
(log 40). A close decision makes OPEN a WARNING, takes over a close under way, lets a HELD gate close in its time, stops and
holds an OPENING one, and turns round one that waits to open; the claim of a gate that waits is released (a HELD one that waits
to home keeps its course, by log 27, and a WARNING, CLOSING or OPENING one takes the row of its state, by log 51). An open
decision makes a WARNING gate OPEN, turns a CLOSING one with its claim kept, and makes a motion start of a HELD or CLOSED one.
MOVE_OPEN, or MOVE_CLOSE, in flight ends SUPERSEDED, before the state changes by log 41. A grant starts or resumes the motion
that waited, faults the gate where its drive is not FRESH, at a resume by the model's choice (log 49), or lets the claim go; a
withdrawal stops a commanded motion with its operation ABNORMAL, and lets go a claim that serves no motion (one that is waited
for stays, by log 27). -/
def Obligations.GateDecisions : Prop :=
  (∀ (s : State) (p : Fin 2),
    let g := s.psq.portals[p]
    let c := s.psq.config[p]
    let ends : Bool := g.op = some .moveOpen
    let put : Portal → State := fun q => { s with psq.portals := s.psq.portals.set p q }
    let ended : Portal → State := fun q => if ends = true
      then emit .completionReady (p.val + 1) 0 Operation.moveOpen.code OpOutcome.superseded.code { put { q with op := none } with
        psq.inFlight := s.psq.inFlight - 1
        psq.completions := entriesAfter p .superseded g.position s }
      else put q
    let dropped : State → State := fun u =>
      if claimGranted (.gate p) s = true ∧ g.powerWait = false then u else release (.gate p) u
    let stopped : State → State := fun u => if portalInstalled p s = true ∧ partHas (gateSlot p) s = true then { u with
      cfl.slots := match g.reportValue with
        | some v => s.cfl.slots.set (gateSlot p) { s.cfl.slots[gateSlot p] with
            target := some v, pending := true, source := some .engine, cls := some .safety }
        | none => s.cfl.slots } else u
    let clear : Option Nat := if g.presence = .clear then some c.clear else none
    let t := closeForPosture p s
    (g.state = .open → t = gateAnnounced p .warning .posture (dropped (put { g with
      target := some .close, closedBy := some .posture, powerWait := false, warned := false, warning := some c.warning,
      clear := none, holdLong := none, progress := none, homing := none }))) ∧
    (g.state = .warning ∨ g.state = .closing ∨ (g.state = .held ∧ g.target = some .close) →
      t = put { g with closedBy := some .posture }) ∧
    (g.state = .held → g.target = none ∨ g.target = some .open → t = dropped (ended { g with
      target := some .close, closedBy := some .posture, powerWait := false, clear := clear,
      holdLong := if g.holdLong = none ∧ g.heldLong = false then some c.holdLong else g.holdLong })) ∧
    (g.state = .opening → t = gateAnnounced p .held .posture (dropped (stopped (ended { g with
      target := some .close, closedBy := some .posture, powerWait := false, heldLong := false, warning := none,
      clear := clear, holdLong := some c.holdLong, progress := none, homing := none })))) ∧
    (g.state = .closed → g.target = some .open → t = dropped (ended { g with
      target := some .close, closedBy := some .posture, powerWait := false })) ∧
    ((g.state = .closed ∧ g.target ≠ some .open) ∨ g.state = .unknown ∨ g.state = .homing ∨ g.state = .fault ∨
      (g.state = .held ∧ g.target = some .home) → t = s)) ∧
  (∀ (s : State) (p : Fin 2),
    let g := s.psq.portals[p]
    let c := s.psq.config[p]
    let put : State → Portal → State := fun u q => { u with psq.portals := u.psq.portals.set p q }
    let ended : Portal → State := fun q => if g.op = some .moveClose
      then emit .completionReady (p.val + 1) 0 Operation.moveClose.code OpOutcome.superseded.code
        { put s { q with op := none } with
          psq.inFlight := s.psq.inFlight - 1
          psq.completions := entriesAfter p .superseded g.position s }
      else put s q
    let driven : State → State := fun u => if portalInstalled p s = true ∧ partHas (gateSlot p) s = true then { u with
      cfl.slots := s.cfl.slots.set (gateSlot p) { s.cfl.slots[gateSlot p] with
        target := some 0, pending := true, source := some .engine, cls := some .safety } } else u
    let turned : State := ended { g with
      target := some .open, closedBy := none, warned := false, clear := none, holdLong := none }
    let asked : State := if holdsClaim (.gate p) s = true then turned else askWaiting (.gate p) c.power turned
    let still : Portal := turned.psq.portals[p]
    let t := openForReopen p s
    (g.closedBy ≠ some .posture ∨ g.state = .unknown ∨ g.state = .homing ∨ g.state = .fault ∨ g.state = .open ∨
      g.state = .opening → t = s) ∧
    (g.closedBy = some .posture →
      (g.state = .warning →
        let opened := ended { g with
          target := none, closedBy := none, powerWait := false, warned := false, warning := none, clear := none,
          holdLong := none, progress := none, homing := none }
        t = gateAnnounced p .open .reopen
          (if claimGranted (.gate p) s = true ∧ g.powerWait = false then opened else release (.gate p) opened)) ∧
      (g.state = .closing →
        let opening := ended { g with
          target := some .open, closedBy := none, warned := false, warning := none, clear := none, holdLong := none,
          homing := none, progress := if g.powerWait = true then none else some c.window }
        t = gateAnnounced p .opening .reopen (if g.powerWait = true then opening else driven opening)) ∧
      (g.state = .held ∨ g.state = .closed →
        (g.driveFresh ≠ .fresh → GateFaulted p .driveSilent turned t) ∧
        (g.driveFresh = .fresh → claimGranted (.gate p) asked = true →
          t = gateAnnounced p .opening .reopen (driven (put asked { still with
            powerWait := false, warning := none, homing := none, progress := some c.window }))) ∧
        (g.driveFresh = .fresh → claimGranted (.gate p) asked = false →
          t = put asked { still with powerWait := true })))) ∧
  (∀ (s : State) (new prev : Posture) (cause : PostureCause),
    let held : State := { s with psq.posture := new }
    let both : (Fin 2 → State → State) → State := fun f =>
      let first := if portalInstalled 0 s = true then f 0 held else held
      if portalInstalled 1 s = true then f 1 first else first
    let t := runTask (.posture .psq new prev cause) s
    (new = .closed → t = both closeForPosture) ∧ (new ≠ .closed → cause = .reopen → t = both openForReopen) ∧
    (new ≠ .closed → cause ≠ .reopen → t = held)) ∧
  ∀ (s : State) (p : Fin 2),
    let g := s.psq.portals[p]
    let c := s.psq.config[p]
    let put : Portal → State := fun q => { s with psq.portals := s.psq.portals.set p q }
    let written : Int → State → State := fun v u => if portalInstalled p s = true ∧ partHas (gateSlot p) s = true then { u with
      cfl.slots := s.cfl.slots.set (gateSlot p) { s.cfl.slots[gateSlot p] with
        target := some v, pending := true, source := some .engine, cls := some .safety } } else u
    let up := runTask (.claim (.gate p) true) s
    let down := runTask (.claim (.gate p) false) s
    (claimGranted (.gate p) s = false → up = s) ∧
    (claimGranted (.gate p) s = true →
      (g.target = none → up = release (.gate p) s) ∧
      (g.target.isSome = true → g.powerWait = false → up = s) ∧
      (g.target.isSome = true → g.powerWait = true → g.driveFresh ≠ .fresh → g.state ≠ .fault →
        GateFaulted p .driveSilent s up) ∧
      (g.powerWait = true → g.driveFresh = .fresh → g.target = some .close → g.presence = .occupied →
        (g.state = .held → up = release (.gate p) (put { g with powerWait := false })) ∧
        (g.state ≠ .held → up = gateAnnounced p .held .power (release (.gate p) (put { g with
          powerWait := false, heldLong := false, warning := none, clear := none, progress := none, homing := none,
          holdLong := some c.holdLong })))) ∧
      (g.powerWait = true → g.driveFresh = .fresh → ∀ goal ∈ g.target, (goal = .close → g.presence = .clear) →
        let value : Int := match goal with
          | .close => c.travel
          | .open => 0
          | .home => -1
        let motion : GateState := match goal with
          | .close => .closing
          | .open => .opening
          | .home => .homing
        let begun := written value (put { g with
          powerWait := false, warning := none, clear := none, holdLong := none,
          progress := if goal = .home then none else some c.window,
          homing := if goal = .home then some (c.fullTravel * 9 / 8 + 10) else none,
          closedBy := if goal = .home then none else g.closedBy })
        up = if g.state = motion then begun else gateAnnounced p motion .power begun)) ∧
    (holdsClaim (.gate p) s = false → down = s) ∧
    (holdsClaim (.gate p) s = true →
      (g.state.moving = true → g.powerWait = false →
        let halted : State := put { g with progress := none, homing := none, powerWait := true, op := none }
        let stopped := match g.reportValue with
          | some v => written v halted
          | none => halted
        down = match g.op with
          | some op => emit .completionReady (p.val + 1) 0 op.code OpOutcome.abnormal.code { stopped with
              psq.inFlight := s.psq.inFlight - 1
              psq.completions := entriesAfter p .abnormal g.position s }
          | none => stopped) ∧
      (g.powerWait = true → down = s) ∧
      (g.state.moving = false → g.powerWait = false → down = release (.gate p) s))

/-! ## Lighting and signals -/

/-- The signals of every installed portal show the aspects of its gate, as the LSE holds its state, and the posture after every
step; among them, the stop lamp of a gate that the LSE holds in any state but OPEN is not off (R113). That the LSE holds the
gate's own state is the statement GateCopiesKept. -/
def Obligations.SignalsKept : Prop :=
  (∀ s t : State, SignalsSound s → step s = .next t → SignalsSound t) ∧
  ∀ (s : State) (p : Fin 2), SignalsSound s → s.running = true → portalInstalled p s = true →
    s.lse.gates[p] ≠ .open → s.cfl.slots[stopSlot p].target ≠ some 0

/-- The gate states that the LSE holds for the signals, and the CFL for its gate slots, are the gates' own states, whenever a
step leaves no announcement waiting (R98, R113, R167; log 2). So the stop lamp of an installed portal is not off while its gate
is in any state but OPEN (R113). -/
def Obligations.GateCopiesKept : Prop :=
  (∀ (s t : State),
    s.agenda = [] → (∀ p : Fin 2, s.lse.gates[p] = s.psq.portals[p].state ∧ s.cfl.gates[p] = s.psq.portals[p].state) →
    step s = .next t → t.agenda = [] →
    ∀ p : Fin 2, t.lse.gates[p] = t.psq.portals[p].state ∧ t.cfl.gates[p] = t.psq.portals[p].state) ∧
  ∀ (s : State) (p : Fin 2), SignalsSound s → s.running = true → portalInstalled p s = true →
    s.lse.gates[p] = s.psq.portals[p].state → s.psq.portals[p].state ≠ .open →
    s.cfl.slots[stopSlot p].target ≠ some 0

/-- The amounts of a zone's claims (R108) and the output of a granted part (R109): the floor and the upper amount round up to
what the zone draws, together they cover the level's power and exceed it by less than two units, and no part lights a zone above
its level. -/
def Obligations.ZoneAmounts : Prop :=
  ∀ (c : ZoneConfig) (level : Nat),
    (level ≤ c.floor → c.ratedPower * level ≤ 100 * floorAmount c level ∧
      100 * floorAmount c level < c.ratedPower * level + 100) ∧
    (c.floor < level →
      c.ratedPower * level ≤ 100 * (floorAmount c level + upperAmount c level) ∧
      100 * (floorAmount c level + upperAmount c level) < c.ratedPower * level + 200) ∧
    (∀ m : Nat, level ≤ m → floorAmount c level ≤ floorAmount c m ∧ upperAmount c level ≤ upperAmount c m) ∧
    (∀ part : GrantedPart, outputLevel part level c.floor ≤ level) ∧
    outputLevel .full level c.floor = level ∧ outputLevel .none level c.floor = 0

/-- The levels of a zone outside a lamp test (R107-R111). A posture announcement has every installed zone re-evaluated, in
whatever order (R107; the model's order is log 39), and moves no slot but those of the signals. A re-evaluation under PART
takes the scene level of the posture and the band, hands or releases the two claims, the floor first at a rise and the upper
first at a fall (at an unchanged level the floor first, by log 35; an upper claim also at the amount 0, by log 38), and keeps
the output of the granted part in the slot; without a lamp node it sets the desired level alone, the output 0. A grant raises
the zone to what its claims carry. A withdrawal lowers it, with the source SHED (R109); under SUPERVISOR the lower level
becomes the desired level and the withdrawn claim is released (R111). Handed to the supervisor, the zone keeps its output as
the desired level, its slot and its GRANTED claims at that level's amounts, and releases its WAITING ones; handed back it is
re-evaluated (R110). -/
def Obligations.ZoneLevels : Prop :=
  (∀ (s : State) (z : Fin 8), s.lse.zones[z].test = false →
    let r := s.lse.zones[z]
    let c := s.lse.config[z]
    let level := ((s.lse.scene.levels.toList[s.lse.posture.code * 4 + s.lse.band.code]?).map fun row => row[z]).getD 0
    let floorHand : State → State := fun u =>
      if 0 < level then handClaim (.floor z) ((c.ratedPower * min level c.floor + 99) / 100) u else release (.floor z) u
    let upperHand : State → State := fun u =>
      if c.floor < level then handClaim (.upper z) ((c.ratedPower * (level - c.floor) + 99) / 100) u
      else release (.upper z) u
    let told : State := { s with lse.zones := s.lse.zones.set z { r with desired := level } }
    let handed := if level < r.desired then floorHand (upperHand told) else upperHand (floorHand told)
    let part : GrantedPart := if level = 0 then .full else if claimGranted (.floor z) handed = false then .none
      else if c.floor < level ∧ claimGranted (.upper z) handed = false then .floor else .full
    let output : Nat := match part with
      | .full => level
      | .floor => min level c.floor
      | .none => 0
    let t := runTask (.zone z) s
    (zoneInstalled z s = false ∨ partHas (zoneSlot z) s = false → t = s) ∧
    (zoneInstalled z s = true → partHas (zoneSlot z) s = true →
      (assigned (.lamp z) s = false → t = { s with
        lse.zones := s.lse.zones.set z { r with desired := level, output := 0 } }) ∧
      (assigned (.lamp z) s = true → t = { handed with
        lse.zones := s.lse.zones.set z { r with desired := level, part := part, output := output }
        cfl.slots := if s.cfl.slots[zoneSlot z].target = some (output : Int) then s.cfl.slots
          else s.cfl.slots.set (zoneSlot z) { s.cfl.slots[zoneSlot z] with
            target := some (output : Int), pending := true, source := some .engine, cls := some .ordinary } })) ∧
    (partHas (zoneSlot z) s = true → runTask (.authority (zoneSlot z)) s = t)) ∧
  (∀ (s : State) (p prev : Posture) (cause : PostureCause),
    let t := runTask (.posture .lse p prev cause) s
    t.lse = { s.lse with posture := p } ∧ t.agenda.take s.agenda.length = s.agenda ∧
    (t.agenda.drop s.agenda.length).Perm (((List.finRange 8).filter fun z => zoneInstalled z s).map .zone) ∧
    (∀ k : Fin 20, t.cfl.slots[k] = s.cfl.slots[k] ∨ k.val ∈ [8, 9, 10, 11]) ∧
    t = { s with lse.posture := p, cfl.slots := t.cfl.slots, agenda := t.agenda }) ∧
  (∀ (s : State) (z : Fin 8) (upper : Bool), s.lse.zones[z].test = false →
    let r := s.lse.zones[z]
    let c := s.lse.config[z]
    let o : Owner := if upper = true then .upper z else .floor z
    let up := runTask (.claim o true) s
    let down := runTask (.claim o false) s
    let part : GrantedPart := if r.desired = 0 then .full else if claimGranted (.floor z) s = false then .none
      else if c.floor < r.desired ∧ claimGranted (.upper z) s = false then .floor else .full
    let output : Nat := match part with
      | .full => r.desired
      | .floor => min r.desired c.floor
      | .none => 0
    let written : Nat → SlotSource → Slot := fun v src => if s.cfl.slots[zoneSlot z].target = some (v : Int)
      then s.cfl.slots[zoneSlot z] else { s.cfl.slots[zoneSlot z] with
        target := some (v : Int), pending := true, source := some src, cls := some .ordinary }
    (claimGranted o s = false ∨ partHas (zoneSlot z) s = false ∨ assigned (.lamp z) s = false → up = s) ∧
    (zoneInstalled z s = true → claimGranted o s = true → partHas (zoneSlot z) s = true → assigned (.lamp z) s = true →
      up = { s with
        lse.zones := s.lse.zones.set z { r with part := part, output := output }
        cfl.slots := s.cfl.slots.set (zoneSlot z) (written output .engine) }) ∧
    (holdsClaim o s = false → down = s) ∧
    (zoneInstalled z s = true → holdsClaim o s = true → partHas (zoneSlot z) s = true → r.desired ≠ 0 →
      (upper = false → down = { s with
        lse.zones := s.lse.zones.set z { r with part := .none, output := 0 }
        cfl.slots := s.cfl.slots.set (zoneSlot z) (written 0 .shed) }) ∧
      (upper = true → r.part ≠ .none → c.floor < r.desired → down = { s with
        lse.zones := s.lse.zones.set z { r with part := .floor, output := c.floor }
        cfl.slots := s.cfl.slots.set (zoneSlot z) (written c.floor .shed) })) ∧
    (zoneInstalled z s = true → holdsClaim o s = true → partHas (zoneSlot z) s = false →
      let level : Nat := if upper = true then min r.desired c.floor else 0
      down.lse = { s.lse with
        zones := s.lse.zones.set z { r with desired := level, output := level, part := .full } } ∧
      down.cfl.slots = s.cfl.slots.set (zoneSlot z) { s.cfl.slots[zoneSlot z] with
        target := some (level : Int), pending := true, source := some .shed, cls := some .ordinary } ∧
      holdsClaim o down = false ∧ (level = 0 → holdsClaim (.floor z) down = false ∧ holdsClaim (.upper z) down = false) ∧
      (level ≠ 0 → down.lda = (release o s).lda))) ∧
  ∀ (s : State) (z : Fin 8), s.lse.zones[z].test = false → partHas (zoneSlot z) s = false →
    let r := s.lse.zones[z]
    let c := s.lse.config[z]
    let level := r.output
    let t := runTask (.authority (zoneSlot z)) s
    t.lse = { s.lse with
      zones := s.lse.zones.set z { r with desired := level, part := .full, testTimer := none, measured := none } } ∧
    t.cfl = s.cfl ∧
    (claimGranted (.floor z) s = false → holdsClaim (.floor z) t = false) ∧
    (claimGranted (.upper z) s = false → holdsClaim (.upper z) t = false) ∧
    (LoadSound s → GrantedHead s → s.pdx.roster.Nodup → (∀ w : Fin 8, s.lse.config[w].shedPriority ≤ 8) →
      (claimGranted (.floor z) s = true → (claimOf (.floor z) t.lda.claims).map (·.amount) =
        if 0 < level then some ((c.ratedPower * min level c.floor + 99) / 100) else none) ∧
      (claimGranted (.upper z) s = true → (claimOf (.upper z) t.lda.claims).map (·.amount) =
        if c.floor < level then some ((c.ratedPower * (level - c.floor) + 99) / 100) else none))

/-- The day band (R106), for rising thresholds: a value at the threshold of a higher band takes the highest such band; a value
that reaches no higher band and is not below seven eighths of the present threshold leaves the band; a lower value takes the
highest band at or below the present one whose seven eighths it meets. A luminance delivery keeps the freshness, judges the
value, one below 0 as 0, and at a new band offers DAY_BAND and has every installed zone re-evaluated (R107). -/
def Obligations.DayBands : Prop :=
  (∀ (c : Scene) (b : DayBand) (v : Nat), c.t1 < c.t2 → c.t2 < c.t3 →
    (∀ h : DayBand, b.code < h.code → bandThreshold c h ≤ v → (∀ k : DayBand, h.code < k.code → v < bandThreshold c k) →
      bandAt c b v = h) ∧
    ((∀ h : DayBand, b.code < h.code → v < bandThreshold c h) → bandThreshold c b * 7 / 8 ≤ v → bandAt c b v = b) ∧
    ((∀ h : DayBand, b.code < h.code → v < bandThreshold c h) → v < bandThreshold c b * 7 / 8 →
      (bandAt c b v).code < b.code ∧ bandThreshold c (bandAt c b v) * 7 / 8 ≤ v ∧
      ∀ k : DayBand, (bandAt c b v).code < k.code → k.code ≤ b.code → v < bandThreshold c k * 7 / 8)) ∧
  ∀ (s : State) (d : Delivery),
    let told : State := { s with lse.lumFresh := d.fresh.getD s.lse.lumFresh }
    let t := takeDelivery .luminance d s
    (d.value = none → t = told) ∧
    ∀ v ∈ d.value,
      let band := bandAt s.lse.scene s.lse.band (max 0 v).toNat
      (band = s.lse.band → t = told) ∧
      (band ≠ s.lse.band →
        t = { told with lse.band := band, lif := t.lif, agenda := t.agenda } ∧
        t.lif = (emit .dayBand 0 (max 0 v) band.code s.lse.band.code s).lif ∧
        t.agenda.take s.agenda.length = s.agenda ∧
        (t.agenda.drop s.agenda.length).Perm (((List.finRange 8).filter fun z => zoneInstalled z s).map .zone))

/-- LAMP_TEST of an installed zone (R115), the ends of its timers (R114, R116) and its lamp-fault counts and flag (R114). A
refusal changes nothing but its REPLY; that of POWER, where the floor's ask was granted and the upper's was not, gives the
floor claim back to the desired level. With its two asks granted the zone is driven to 100 for 10 s. The test timer's end posts
an entry with the outcome of the measurement. The steady timer's end sets the steady mark. A timer that is stopped, or has
seconds left, has no expiry to take (log 6). A lamp current counts on a steady zone with a rated current and an emitted value
of at least 10: three low samples in a row set the flag, three good ones clear it, each with LAMP_FAULT, the percent of the
expected current and the flag in the low byte of its aux (log 15). In a test each counted sample at an emitted value of 100 is
the measurement, in percent of the rated current, at most 1000 (R116). A test in flight ends SUPERSEDED at a re-evaluation in
STORM or above, at a withdrawal of either claim and when the zone's authority leaves PART, and EQUIPMENT when its lamp node
goes STALE; below STORM a re-evaluation changes its desired level alone (R116, R117). The refusals up to the reservation are
the first that holds, in the order of R115: PENDING_SENSE, BUSY, POSTURE, AUTHORITY, NOT_READY, LIST_FULL. -/
def Obligations.LampTests : Prop :=
  (∀ (s : State) (x : Byte) (z : Fin 8), Ready s → zoneIndex x.toNat s = some z →
    (∀ st : Status, lampTestRefusal z s = some st →
      exec (.lampTest x) s = .next (placeReply 13 x.toNat (refused st 0) s)) ∧
    (lampTestRefusal z s = none → (askForTest z s).1 = true →
      ∃ u, exec (.lampTest x) s = .next (settle u) ∧ u.lse.zones[z].test = true ∧ u.lse.zones[z].output = 100 ∧
        u.lse.zones[z].testTimer = some 10 ∧ u.lse.zones[z].measured = none ∧
        u.cfl.slots[zoneSlot z].target = some 100 ∧ u.psq.inFlight = s.psq.inFlight + 1 ∧
        u.psq.completions = s.psq.completions ∧ (∀ y : Fin 8, y ≠ z → u.lse.zones[y] = s.lse.zones[y]) ∧
        u.tables = s.tables ∧ u.pdx = s.pdx) ∧
    (∀ n : Nat, lampTestRefusal z s = none → n = floorAmount s.lse.config[z] 100 →
      (withinGrant (.floor z) n s = false → wouldGrant (.floor z) n s = false →
        exec (.lampTest x) s = .next (placeReply 13 x.toNat (refused .power 0) s)) ∧
      (withinGrant (.floor z) n s = true ∨ wouldGrant (.floor z) n s = true → (askForTest z s).1 = false →
        ∃ u, exec (.lampTest x) s = .next (settle (post (.reply 13 x.toNat (refused .power 0)) u)) ∧
          (claimOf (.floor z) u.lda.claims).map (·.amount) =
            (if 0 < s.lse.zones[z].desired then some (floorAmount s.lse.config[z] s.lse.zones[z].desired) else none) ∧
          u.lse = s.lse ∧ u.psq = s.psq ∧ u.cfl = s.cfl ∧ u.pdx = s.pdx ∧ u.tables = s.tables))) ∧
  (∀ (s : State) (z : Fin 8), Quiet s →
    (s.lse.zones[z].testTimer = some 0 → s.lse.zones[z].test = true →
      ∃ u, exec (.lampTestTimerExpiry (z.val + 1)) s = .next (settle u) ∧ u.lse.zones[z].test = false ∧
        u.lse.zones[z].testTimer = none ∧ u.psq.inFlight = s.psq.inFlight - 1 ∧
        u.psq.completions = s.psq.completions ++ [
          { op := .lampTest, target := z.val + 1,
            outcome := (match s.lse.zones[z].measured with
              | none => .equipment
              | some v => if 50 ≤ v then .done else .abnormal),
            detail := s.lse.zones[z].measured, uptime := s.uptime }] ∧ u.tables = s.tables ∧ u.pdx = s.pdx) ∧
    (s.lse.zones[z].steadyTimer = some 0 → exec (.steadyTimerExpiry (z.val + 1)) s = .next { s with
      lse.zones := s.lse.zones.set z { s.lse.zones[z] with steady := true, steadyTimer := none } }) ∧
    (s.lse.zones[z].testTimer ≠ some 0 → exec (.lampTestTimerExpiry (z.val + 1)) s = .next s) ∧
    (s.lse.zones[z].steadyTimer ≠ some 0 → exec (.steadyTimerExpiry (z.val + 1)) s = .next s)) ∧
  (∀ (s : State) (z : Fin 8) (i : Int),
    let e := s.cfl.slots[zoneSlot z].emitted
    let rated := s.lse.config[z].ratedCurrent
    (rated = 0 ∨ s.lse.zones[z].steady = false ∨ (∀ v ∈ e, v < 10) → lampSample z i s = s) ∧
    ∀ v : Int, 0 < rated → s.lse.zones[z].steady = true → e = some v → 10 ≤ v →
      let t := lampSample z i s
      let low := i < Int.tdiv (rated * v) 200
      let percent := min 1000 (Int.tdiv (i * 10000) (rated * v))
      (s.lse.zones[z].fault = false → low → s.lse.zones[z].lowCount < 2 →
        t.lse.zones[z].fault = false ∧ t.lse.zones[z].lowCount = s.lse.zones[z].lowCount + 1 ∧ t.lif = s.lif) ∧
      (s.lse.zones[z].fault = false → low → 2 ≤ s.lse.zones[z].lowCount →
        t.lse.zones[z].fault = true ∧ t.lse.zones[z].lowCount = 0 ∧ t.lse.zones[z].goodCount = 0 ∧
        t.lif = (emit .lampFault (z.val + 1) percent 0 1 s).lif) ∧
      (s.lse.zones[z].fault = false → ¬low →
        t.lse.zones[z].fault = false ∧ t.lse.zones[z].lowCount = 0 ∧ t.lif = s.lif) ∧
      (s.lse.zones[z].fault = true → ¬low → s.lse.zones[z].goodCount < 2 →
        t.lse.zones[z].fault = true ∧ t.lse.zones[z].goodCount = s.lse.zones[z].goodCount + 1 ∧ t.lif = s.lif) ∧
      (s.lse.zones[z].fault = true → ¬low → 2 ≤ s.lse.zones[z].goodCount →
        t.lse.zones[z].fault = false ∧ t.lse.zones[z].lowCount = 0 ∧ t.lse.zones[z].goodCount = 0 ∧
        t.lif = (emit .lampFault (z.val + 1) percent 0 0 s).lif) ∧
      (s.lse.zones[z].fault = true → low →
        t.lse.zones[z].fault = true ∧ t.lse.zones[z].goodCount = 0 ∧ t.lif = s.lif) ∧
      t.lse.zones[z].output = s.lse.zones[z].output ∧ t.lse.zones[z].desired = s.lse.zones[z].desired ∧ t.lda = s.lda ∧
      t.cfl = s.cfl ∧ t.tables = s.tables ∧ ∀ y : Fin 8, y ≠ z → t.lse.zones[y] = s.lse.zones[y]) ∧
  (∀ (s : State) (z : Fin 8) (i : Int),
    let rated := s.lse.config[z].ratedCurrent
    let e := s.cfl.slots[zoneSlot z]
    ∀ v ∈ e.emitted, 0 < rated → s.lse.zones[z].steady = true → 10 ≤ v →
      (lampSample z i s).lse.zones[z].measured = (if s.lse.zones[z].test = true ∧ v = 100
        then some (min 1000 (Int.tdiv (i * 100) rated)) else s.lse.zones[z].measured)) ∧
  (∀ (s : State) (z : Fin 8) (d : Delivery), s.lse.zones[z].test = true →
    let ended : OpOutcome → State → Prop := fun o t =>
      t.lse.zones[z].test = false ∧ t.lse.zones[z].testTimer = none ∧ t.psq.inFlight = s.psq.inFlight - 1 ∧
      t.psq.completions = s.psq.completions ++
        [{ op := .lampTest, target := z.val + 1, outcome := o, detail := none, uptime := s.uptime }]
    (2 ≤ s.lse.posture.code → ended .superseded (runTask (.zone z) s)) ∧
    (s.lse.posture.code < 2 → zoneInstalled z s = true → partHas (zoneSlot z) s = true →
      runTask (.zone z) s = { s with
        lse.zones := s.lse.zones.set z { s.lse.zones[z] with desired := sceneLevel z s } }) ∧
    (partHas (zoneSlot z) s = true →
      (holdsClaim (.floor z) s = true → ended .superseded (runTask (.claim (.floor z) false) s)) ∧
      (holdsClaim (.upper z) s = true → ended .superseded (runTask (.claim (.upper z) false) s))) ∧
    (partHas (zoneSlot z) s = false → ended .superseded (runTask (.authority (zoneSlot z)) s) ∧
      (runTask (.authority (zoneSlot z)) s).cfl = s.cfl) ∧
    (d.fresh = some .stale → d.value = none → ended .equipment (takeDelivery (.lamp z) d s))) ∧
  (∀ (s : State) (z : Fin 8) (d : Delivery), d.fresh ≠ some .stale ∨ s.lse.zones[z].test = false →
    let told : State := { s with lse.zones := s.lse.zones.set z { s.lse.zones[z] with
      lampFresh := d.fresh.getD s.lse.zones[z].lampFresh } }
    (d.value = none → takeDelivery (.lamp z) d s = told) ∧
    (∀ v ∈ d.value, takeDelivery (.lamp z) d s = lampSample z v told)) ∧
  ∀ (s : State) (z : Fin 8),
    let r := s.lse.zones[z]
    let waits : Bool := s.psq.completions.any fun e => e.op = .lampTest ∧ e.target = z.val + 1
    let unready : Bool := assigned (.lamp z) s = false ∨ r.lampFresh ≠ .fresh ∨ s.lse.config[z].ratedCurrent = 0
    let tests : List (Bool × Status) := [(waits, .pendingSense), (r.test, .busy), (2 ≤ s.lse.posture.code, .posture),
      (s.cfl.slots[zoneSlot z].effective = .supervisor, .authority), (unready, .notReady),
      (8 ≤ s.psq.completions.length + s.psq.inFlight, .listFull)]
    lampTestRefusal z s = (tests.find? fun e => e.1).map fun e => e.2

/-! ## The Command Filter -/

/-- Every slot of the image keeps its source, its class and a value of its range, and so do the tables and zones it is written
from (R105, R152, R153, R156, R159). -/
def Obligations.ImageKept : Prop :=
  ∀ s t : State, ImageSound s → step s = .next t → ImageSound t

/-- Effective authority (R154), and what a recomputation gives every installed slot. -/
def Obligations.EffectiveAuthority : Prop :=
  ∀ (s : State) (k : Fin 20),
    (configuredAuthority k s = none → effectiveAuthority k s = .part) ∧
    (configuredAuthority k s = some .part → effectiveAuthority k s = .part) ∧
    (configuredAuthority k s = some .shared → (effectiveAuthority k s = .part ↔
      s.site.takeover.code ≤ s.cfl.posture.code ∨ s.cfl.supervision = .lost)) ∧
    (configuredAuthority k s = some .supervisor → (effectiveAuthority k s = .part ↔
      fallbackAction k s = some .release ∧ s.cfl.supervision = .lost)) ∧
    (slotInstalled k s = true → (recomputeAuthority s).cfl.slots[k].effective = effectiveAuthority k s ∧
      (recomputeAuthority s).cfl.slots[k].target = s.cfl.slots[k].target ∧
      (commandedSlot k = true → s.cfl.slots[k].effective ≠ effectiveAuthority k s →
        .authority k ∈ (recomputeAuthority s).agenda))

/-- SUPERVISORY_COMMAND (R112, R157-R162) and the standing rules (R163). A COMMAND that names no slot goes to pass-through. One
of another source is refused FOREIGN. The supervisor's is refused SEQUENCED at a gate or signal slot, AUTHORITY where the part
has authority, RANGE outside the slot's range, and RULE where a rule of BLOCK governs; each refusal offers COMMAND_REFUSED and
changes no slot. Else the value after the rule is taken. A stop of a pump is written, and a pump that is up goes to STOPPING. A
run is written for a pump that is up; an IDLE one passes the run check to STARTING or is refused with the check's reason. A
zone answers what it can carry of the value, by the floor and upper claims it holds or is granted at once, and the answer is
written. A value that the rule or the power changed is reported with COMMAND_CLAMPED. At a posture or tier announcement each
slot under SUPERVISOR authority is visited in slot order, and a governing standing rule of CLAMP or RAISE drives the target it
changes. The run check is R59's: in the roster and FRESH, and for an IDLE pump none STARTING, rested, below its start limit and
the claim granted at once, in that order; an IDLE pump's starts list is pruned, also where the check answers UNAVAILABLE (log
28); ages are taken modulo 2^32 (log 10). What a refusal or a clamp reports after a rule is the value the rule left (log 29).
-/
def Obligations.SupervisoryCommands : Prop :=
  (∀ (c : Cell) (s : State), Quiet s →
    (matchSlot c s = none → exec (.supervisoryCommand c) s = .next (offerPassThrough c s)) ∧
    ∀ k : Fin 20, matchSlot c s = some k →
      (c.source ≠ 0 → exec (.supervisoryCommand c) s =
        .next (emit .commandRefused k.val (cellValue c) Reason.foreign.code 0 s)) ∧
      (c.source = 0 → commandedSlot k = false → exec (.supervisoryCommand c) s =
        .next (emit .commandRefused k.val (cellValue c) Reason.sequenced.code 0 s)) ∧
      (c.source = 0 → commandedSlot k = true → partHas k s = true → exec (.supervisoryCommand c) s =
        .next (emit .commandRefused k.val (cellValue c) Reason.authority.code 0 s)) ∧
      (c.source = 0 → commandedSlot k = true → partHas k s = false →
        (slotRange k (cellValue c) = false → exec (.supervisoryCommand c) s =
          .next (emit .commandRefused k.val (cellValue c) Reason.range.code 0 s)) ∧
        (∀ (n : Nat) (r : Rule), slotRange k (cellValue c) = true → governingRule k s = some (n, r) →
          r.action = .block → exec (.supervisoryCommand c) s =
            .next (emit .commandRefused k.val (cellValue c) Reason.rule.code n s)) ∧
        ∀ (w : Int) (entry : Option Nat), slotRange k (cellValue c) = true → AfterRule k s (cellValue c) w entry →
          (∀ i : Fin 6, outputOf k = .pump i →
            let p := s.pdx.pumps[i]
            let recent := p.starts.filter fun t => (s.uptime - t).toNat < 3600
            let power := s.pdx.config[i].ratedPower
            let clamped : State → State := fun u => match entry with
              | some n => emit .commandClamped k.val (cellValue c * 256 + w) Reason.rule.code n u
              | none => u
            let refusedFor : Reason → Prop := fun reason => ∃ u,
              exec (.supervisoryCommand c) s = .next (emit .commandRefused k.val w reason.code 0 u) ∧ u.cfl = s.cfl ∧
                u.lda = s.lda ∧ u.lif = s.lif ∧ u.pdx.pumps[i].state = p.state ∧ u.tables = s.tables
            (w = 0 → ∃ u, exec (.supervisoryCommand c) s = .next (settle u) ∧
              u.cfl.slots[k] = { s.cfl.slots[k] with
                target := some 0, pending := true, source := some .supervisor, cls := some .safety } ∧
              (p.up = true → u.pdx.pumps[i].state = .stopping ∧ u.pdx.pumps[i].stopCause = some .supervisor ∧
                u.pdx.pumps[i].stopConfirm = some s.pdx.config[i].stopConfirm) ∧
              (p.up = false → u.pdx = s.pdx) ∧
              (∀ n : Nat, entry = some n → u.agenda.getLast? = some
                (.emit .commandClamped k.val (cellValue c * 256) Reason.rule.code n)) ∧
              u.tables = s.tables ∧ u.psq = s.psq ∧ u.lse = s.lse) ∧
            (w = 1 → (i ∉ s.pdx.roster ∨ p.fresh ≠ .fresh ∨ (p.state ≠ .idle ∧ p.up = false)) →
              refusedFor .unavailable) ∧
            (w = 1 → i ∈ s.pdx.roster → p.fresh = .fresh →
              (p.up = true → exec (.supervisoryCommand c) s = .next (clamped { s with
                cfl.slots := s.cfl.slots.set k { s.cfl.slots[k] with
                  target := some 1, pending := true, source := some .supervisor, cls := some .ordinary } })) ∧
              (p.state = .idle →
                (anyStarting s = true → refusedFor .stagger) ∧
                (anyStarting s = false →
                  (∀ t : Word, p.lastStop = some t → (s.uptime - t).toNat < s.pdx.config[i].minRest →
                    refusedFor .rest) ∧
                  ((∀ t : Word, p.lastStop = some t → s.pdx.config[i].minRest ≤ (s.uptime - t).toNat) →
                    (s.pdx.config[i].startLimit ≤ recent.length → refusedFor .startLimit) ∧
                    (recent.length < s.pdx.config[i].startLimit →
                      (withinGrant (.pump i) power s = false → wouldGrant (.pump i) power s = false →
                        refusedFor .power) ∧
                      (withinGrant (.pump i) power s = true ∨ wouldGrant (.pump i) power s = true →
                        ∃ u, exec (.supervisoryCommand c) s = .next (settle u) ∧
                        u.pdx.pumps[i].state = .starting ∧ u.pdx.pumps[i].origin = some .supervisor ∧
                        u.pdx.pumps[i].starts = recent ++ [s.uptime] ∧
                        u.pdx.pumps[i].spinUp = some s.pdx.config[i].spinUp ∧
                        (wouldGrant (.pump i) power s = true → claimGranted (.pump i) u = true) ∧
                        u.cfl.slots[k] = { s.cfl.slots[k] with
                          target := some 1, pending := true, source := some .supervisor, cls := some .ordinary } ∧
                        (∀ n : Nat, entry = some n → u.agenda.getLast? = some
                          (.emit .commandClamped k.val (cellValue c * 256 + 1) Reason.rule.code n)) ∧
                        u.tables = s.tables ∧ u.psq = s.psq ∧ u.lse = s.lse))))))) ∧
          ∀ z : Fin 8, outputOf k = .zone z →
            let cfg := s.lse.config[z]
            let v := w.toNat
            let met : Owner → Nat → State → Prop := fun o n t => withinGrant o n t = true ∨ wouldGrant o n t = true
            let asked := if withinGrant (.floor z) (floorAmount cfg v) s = true then s
              else askWaiting (.floor z) (floorAmount cfg v) s
            ∃ (a : Nat) (u : State), exec (.supervisoryCommand c) s = .next (settle u) ∧ a ≤ v ∧
              u.cfl.slots[k] = { s.cfl.slots[k] with
                target := some (a : Int), pending := true, source := some .supervisor, cls := some .ordinary } ∧
              u.lse.zones[z].desired = a ∧ u.tables = s.tables ∧ u.pdx = s.pdx ∧ u.psq = s.psq ∧
              (a < v → u.agenda.getLast? = some
                (.emit .commandClamped k.val (cellValue c * 256 + a) Reason.power.code 0)) ∧
              (∀ n : Nat, a = v → entry = some n → u.agenda.getLast? = some
                (.emit .commandClamped k.val (cellValue c * 256 + a) Reason.rule.code n)) ∧
              (a = v → entry = none → ∀ t ∈ u.agenda, t.kind = 5) ∧
              (assigned (.lamp z) s = false → a = v ∧ u.lda = s.lda ∧ u.lse.zones[z].output = s.lse.zones[z].output) ∧
              (assigned (.lamp z) s = true → u.lse.zones[z].output = a ∧ u.lse.zones[z].part = .full ∧
                (v = 0 → holdsClaim (.floor z) u = false ∧ holdsClaim (.upper z) u = false) ∧
                (0 < v → ¬met (.floor z) (floorAmount cfg v) s → a = min v s.lse.zones[z].output) ∧
                (0 < v → met (.floor z) (floorAmount cfg v) s →
                  (v ≤ cfg.floor → a = v) ∧
                  (cfg.floor < v → met (.upper z) (upperAmount cfg v) asked → a = v) ∧
                  (cfg.floor < v → ¬met (.upper z) (upperAmount cfg v) asked →
                    a = min v (max cfg.floor s.lse.zones[z].output)))))) ∧
  (∀ s : State,
    (∀ t : Tier, cflTier t s = { s with
      cfl.tier := t, agenda := s.agenda ++ (commandedSlots s).map .reapply }) ∧
    (∀ p : Posture, ∃ told : List Task,
      (cflPosture p s).agenda = s.agenda ++ told ++ (commandedSlots s).map .reapply ∧ (cflPosture p s).cfl.posture = p) ∧
    ∀ k : Fin 20,
      (partHas k s = true ∨ s.cfl.slots[k].target = none ∨ governingRule k s = none → reapplySlot k s = s) ∧
      (∀ (n : Nat) (r : Rule), governingRule k s = some (n, r) →
        r.standing = false ∨ r.action = .pass ∨ r.action = .block → reapplySlot k s = s) ∧
      ∀ (n : Nat) (r : Rule) (t w : Int) (entry : Option Nat), slotInstalled k s = true → partHas k s = false →
        s.cfl.slots[k].target = some t → governingRule k s = some (n, r) → r.standing = true →
        (r.action = .clamp ∨ r.action = .raise) → AfterRule k s t w entry →
        (w = t → reapplySlot k s = s) ∧
        (w ≠ t →
          (∀ i : Fin 6, outputOf k = .pump i → w = 0 →
            (reapplySlot k s).cfl.slots[k].target = some 0 ∧ (reapplySlot k s).cfl.slots[k].source = some .clamp ∧
            (reapplySlot k s).cfl.slots[k].cls = some .safety ∧
            (s.pdx.pumps[i].up = true → (reapplySlot k s).pdx.pumps[i].state = .stopping ∧
              (reapplySlot k s).pdx.pumps[i].stopCause = some .supervisor) ∧
            (reapplySlot k s).agenda.getLast? = some
              (.emit .commandClamped k.val (SlotSource.clamp.code * 65536 + t * 256) Reason.rule.code n)) ∧
          (∀ i : Fin 6, outputOf k = .pump i → w = 1 →
            (s.pdx.roster.contains i = true → s.pdx.pumps[i].fresh = .fresh → s.pdx.pumps[i].up = true →
              reapplySlot k s = post (.emit .commandClamped k.val
                (SlotSource.clamp.code * 65536 + t * 256 + 1) Reason.rule.code n) (writeSlot k 1 .clamp s)) ∧
            (s.pdx.pumps[i].fresh ≠ .fresh →
              (reapplySlot k s).cfl = s.cfl ∧ (reapplySlot k s).agenda.getLast? = some
                (.emit .commandRefused k.val (SlotSource.clamp.code * 65536 + 1) Reason.unavailable.code 0))) ∧
          (∀ z : Fin 8, outputOf k = .zone z → ∃ a : Nat, a ≤ w.toNat ∧
            (reapplySlot k s).cfl.slots[k].target = some (a : Int) ∧
            (reapplySlot k s).cfl.slots[k].source = some .clamp ∧
            (reapplySlot k s).lse.zones[z].desired = a ∧
            (assigned (.lamp z) s = false → a = w.toNat) ∧
            (reapplySlot k s).agenda.getLast? = some (.emit .commandClamped k.val
              (SlotSource.clamp.code * 65536 + t * 256 + a)
              (if a = w.toNat then Reason.rule.code else Reason.power.code) (if a = w.toNat then n else 0))))) ∧
  (∀ (s : State) (i : Fin 6),
    let p := s.pdx.pumps[i]
    let recent := p.starts.filter fun t => (s.uptime - t).toNat < 3600
    let power := s.pdx.config[i].ratedPower
    let check := runCheck i s
    let able : Prop := i ∈ s.pdx.roster ∧ p.fresh = .fresh
    let rested : Prop := (p.lastStop.all fun t => s.pdx.config[i].minRest ≤ (s.uptime - t).toNat) = true
    let refusedFor : Reason → Prop := fun reason => check.1 = some reason ∧
      check.2 = { s with pdx.pumps := s.pdx.pumps.set i { p with
        starts := recent, limited := p.limited && decide (s.pdx.config[i].startLimit ≤ recent.length) } }
    (p.up = false → p.state ≠ .idle → check = (some .unavailable, s)) ∧
    (p.up = true → ¬able → check = (some .unavailable, s)) ∧ (p.up = true → able → check = (none, s)) ∧
    (p.state = .idle →
      (¬able → refusedFor .unavailable) ∧ (able → anyStarting s = true → refusedFor .stagger) ∧
      (able → anyStarting s = false →
        (¬rested → refusedFor .rest) ∧
        (rested → s.pdx.config[i].startLimit ≤ recent.length → refusedFor .startLimit) ∧
        (rested → recent.length < s.pdx.config[i].startLimit →
          (withinGrant (.pump i) power s = false → wouldGrant (.pump i) power s = false → refusedFor .power) ∧
          (withinGrant (.pump i) power s = true ∨ wouldGrant (.pump i) power s = true →
            check.1 = none ∧ check.2.pdx.pumps[i].state = .starting ∧ check.2.pdx.pumps[i].origin = some .supervisor ∧
            check.2.pdx.pumps[i].starts = recent ++ [s.uptime] ∧ check.2.pdx.pumps[i].powerWait = false ∧
            check.2.pdx.pumps[i].spinUp = some s.pdx.config[i].spinUp ∧ check.2.cfl = s.cfl ∧ check.2.tables = s.tables ∧
            (∀ j : Fin 6, j ≠ i → check.2.pdx.pumps[j] = s.pdx.pumps[j]) ∧
            (wouldGrant (.pump i) power s = true → claimGranted (.pump i) check.2 = true)))))) ∧
  ∀ (s : State) (k : Fin 20) (i : Fin 6), slotInstalled k s = true → partHas k s = false → outputOf k = .pump i →
    let e := s.cfl.slots[k]
    ∀ t ∈ e.target, ∀ g ∈ governingRule k s, g.2.standing = true → g.2.action = .raise →
      max t (min (g.2.value : Int) 1) ≠ t → max t (min (g.2.value : Int) 1) = 1 →
        ((runCheck i s).1 = none → reapplySlot k s = post (.emit .commandClamped k.val
          (SlotSource.clamp.code * 65536 + t * 256 + 1) Reason.rule.code g.1) (writeSlot k 1 .clamp (runCheck i s).2)) ∧
        ∀ reason ∈ (runCheck i s).1, reapplySlot k s = post (.emit .commandRefused k.val
          (SlotSource.clamp.code * 65536 + 1) reason.code 0) (runCheck i s).2

/-- SUPERVISION_TIMER_EXPIRY (R145, R154, R165). At the expiry of the supervision timer, with no seconds left, supervision is
LOST and the timer stopped; SUPERVISION_LOST and the loss notice come first, in either order; then the effective authority of
every installed slot is recomputed, each change of a pump or zone slot told to its engine in slot order; then the fallback of
every installed pump and zone slot is applied in slot order. The loss notice flushes the forwarded cells but one under
transmission where the setting is on. A slot that the part has, or whose action is HOLD or RELEASE, keeps its target; DRIVE
stops a pump, or runs it through the run check, or gives a zone what it can carry, with source FALLBACK. With supervision LOST,
or its timer stopped or restarted by a notice taken first, there is no expiry to take (R164, log 6). What the loss, a notice,
or a posture or tier announcement at the CFL, leaves to be told, re-applied, applied or reported, and the COMMAND that travels
with its notice as one delivery (R142, R158), is done before a posture or tier announcement that it gives rise to reaches the
CFL, which the queue of announcements otherwise keeps in its order (R142, R163, R167, log 2). -/
def Obligations.SupervisionLoss : Prop :=
  (∀ (s : State), Quiet s →
    (s.cfl.supervision = .present → s.cfl.timer = some 0 →
      ∃ u, exec (.supervisionTimerExpiry) s = .next (settle u) ∧
      (let lost : State := { s with cfl.supervision := .lost }
       let slots := (List.finRange 20).filter fun k => commandedSlot k && slotInstalled k s
       u = { s with
         agenda := u.agenda, choices := u.choices, cfl.supervision := .lost, cfl.timer := none
         cfl.slots := Vector.ofFn fun k : Fin 20 => if slotInstalled k s = true
           then { s.cfl.slots[k] with effective := effectiveAuthority k lost } else s.cfl.slots[k] } ∧
       (u.agenda.take 2).Perm [.emit .supervisionLost 0 0 0 0, .flush] ∧
       u.agenda.drop 2 = (slots.filter fun k => s.cfl.slots[k].effective ≠ effectiveAuthority k lost).map .authority ++
         slots.map .fallback) ∧
      (settle u).cfl.supervision = .lost ∧ (settle u).cfl.timer = none ∧ (settle u).tables = s.tables ∧
      (settle u).siu = s.siu ∧ (settle u).sau.est = s.sau.est) ∧
    (s.cfl.supervision = .lost ∨ s.cfl.timer ≠ some 0 → exec .supervisionTimerExpiry s = .next s)) ∧
  (∀ (s : State),
    let sent := if s.lif.headSending = true then 1 else 0
    let kept := s.lif.queue.take sent ++ (s.lif.queue.drop sent).filter fun e => e.kind ≠ .forwarded
    (s.site.flushOnLoss = false → runTask .flush s = s) ∧
    (s.site.flushOnLoss = true → runTask .flush s = { s with
      lif.queue := kept
      lif.forwardDrops := min 65535 (s.lif.forwardDrops + (s.lif.queue.length - kept.length)) })) ∧
  (∀ (s : State) (k : Fin 20),
    let t := runTask (.fallback k) s
    (slotInstalled k s = false ∨ partHas k s = true ∨ fallbackAction k s ≠ some .drive → t = s) ∧
    (slotInstalled k s = true → partHas k s = false → fallbackAction k s = some .drive → ∀ v ∈ fallbackValue k s,
      (∀ i : Fin 6, outputOf k = .pump i →
        (v = 0 → t.cfl.slots[k] = { s.cfl.slots[k] with
            target := some 0, pending := true, source := some .fallback, cls := some .safety } ∧
          (s.pdx.pumps[i].up = true →
            t.pdx.pumps[i].state = .stopping ∧ t.pdx.pumps[i].stopCause = some .supervisor) ∧
          (s.pdx.pumps[i].up = false → t.pdx = s.pdx)) ∧
        (v = 1 → (runCheck i s).1 = none → t = writeSlot k 1 .fallback (runCheck i s).2) ∧
        (v = 1 → ∀ reason ∈ (runCheck i s).1, t = post (.emit .commandRefused k.val
          (SlotSource.fallback.code * 65536 + 1) reason.code 0) (runCheck i s).2)) ∧
      ∀ z : Fin 8, outputOf k = .zone z →
        let a := t.lse.zones[z].desired
        a ≤ v ∧ t.cfl.slots[k] = { s.cfl.slots[k] with
          target := some (a : Int), pending := true, source := some .fallback, cls := some .ordinary } ∧
        (assigned (.lamp z) s = false → a = v) ∧ (assigned (.lamp z) s = true → t.lse.zones[z].output = a) ∧
        (a < v → t.agenda.getLast? = some (.emit .commandClamped k.val
          (SlotSource.fallback.code * 65536 + (v : Int) * 256 + a) Reason.power.code 0)))) ∧
  (∀ (t : Task) (ts rest : List Task), ∃ front back : List Task,
    putAhead (t :: ts) rest = front ++ t :: putAhead ts back ∧ front ++ back = rest ∧
    ∀ (p q : Posture) (c : PostureCause) (x : Tier), t = .posture .cfl p q c ∨ t = .tier x → ∀ u ∈ back,
      (∀ k : Fin 20, u ≠ .authority k ∧ u ≠ .reapply k ∧ u ≠ .fallback k) ∧ u ≠ .tableReports ∧ (∀ c : Cell, u ≠ .command c) ∧
      ∀ (e : Event) (n : Nat) (v : Int) (hi lo : Nat), u ≠ .emit e n v hi lo) ∧
  ∀ (n : Nat) (s : State) (t : Task) (rest : List Task), s.agenda = t :: rest →
    let u := runTask t { s with agenda := [] }
    drain (n + 1) s = drain n { u with agenda := putAhead u.agenda rest }

/-! ## The request reference -/

/-- The requests that read. READ_ESTIMATES, READ_LOAD, READ_FIELD and READ_IDENTITY change nothing but their REPLY, with these
values among those they return, and RANGE at an empty place of the roster; the day band stands at the place that the model
leaves open (R106, log 37); a REPLY takes the reply slot, is counted as accepted or refused, and is put at the tail of the port
A queue (R170, R173, R174, R175, R184). An accepted STATUS clears the events-lost flag after the summary is formed, and a
READ_COUNTERS returns and clears the two counters of its group (R172, R176); a refused STATUS carries the summary in its detail
(log 19), a refused READ_COUNTERS and a READ_FIELD of an empty roster place the detail 0 (log 16). SENSE_COMPLETION takes the
oldest entry from the list into its REPLY, its target as the index, and on an empty list replies the outcome NONE alone (R102,
R179). A REQUEST that is taken while the reply slot is occupied, whichever it is, is discarded and counted, and changes nothing
else (R169). -/
def Obligations.ReadsReply : Prop :=
  (∀ (s : State) (f x : Byte), Ready s →
    exec (.readEstimates f x) s = .next (placeReply 2 x.toNat (readEstimates f.toNat s) s) ∧
    exec (.readLoad f x) s = .next (placeReply 3 x.toNat (readLoad f.toNat s) s) ∧
    (∀ t : Byte, exec (.readField t f x) s = .next (placeReply 4 x.toNat (readField t.toNat f.toNat x.toNat s) s)) ∧
    exec (.readIdentity f x) s = .next (placeReply 22 x.toNat (readIdentity f.toNat s) s) ∧
    (∀ (n i : Nat) (a : Answer), s.lif.queue.length ≤ 23 →
      placeReply n i a s = { s with
        rqa.replySlot := true,
        rqa.accepted := if a.status = .ok ∨ a.status = .accepted then bump s.rqa.accepted else s.rqa.accepted,
        rqa.refused := if a.status = .ok ∨ a.status = .accepted then s.rqa.refused else bump s.rqa.refused,
        lif.queue := s.lif.queue ++ [QueueEntry.mk .reply
          (formCell s 5 0 n (resultValue a.result s) a.status.code (resultDetail a s) i)] }) ∧
    (∀ e : Estimates, s.sau.est = some e → readEstimates 5 s = okWith e.time (estimateFlags s)) ∧
    (s.sau.est = none → readEstimates 5 s = okWith (-2147483648) (estimateFlags s)) ∧
    readLoad 1 s = okWith (grantedSum s.lda.claims) (loadFlags s) ∧ readIdentity 0 s = okWith 7260 0 ∧
    (∀ n : Nat, s.pdx.roster.length < n → readField 17 0 n s = refused .range 0) ∧
    (∀ n : Nat, readField dayBandPlace.1 dayBandPlace.2 n s = okWith s.lse.band.code 0) ∧
    readField 24 0 0 s = okWith s.uptime.toInt 0 ∧ readField 3 0 0 s = okWith s.pev.thresholds.wetLevel 0 ∧
    (10 < f.toNat → (readEstimates f.toNat s).status = .range) ∧ (7 < f.toNat → (readLoad f.toNat s).status = .range) ∧
    (5 < f.toNat → (readIdentity f.toNat s).status = .range)) ∧
  (∀ (s : State) (x : Byte), Ready s →
    exec (.status 0 x) s = .next (placeReply 1 x.toNat (okWith (statusPage0 s) (summary s)) { s with lif.eventsLost := false }) ∧
    exec (.status 1 x) s = .next (placeReply 1 x.toNat (okWith (statusPage1 s) (summary s)) { s with lif.eventsLost := false }) ∧
    exec (.status 2 x) s = .next (placeReply 1 x.toNat (okWith (statusPage2 s) (summary s)) { s with lif.eventsLost := false }) ∧
    exec (.status 3 x) s = .next (placeReply 1 x.toNat (okWith (statusPage3 s) (summary s)) { s with lif.eventsLost := false }) ∧
    (∀ f : Byte, 3 < f.toNat → exec (.status f x) s = .next (placeReply 1 x.toNat (refused .range (summary s)) s)) ∧
    exec (.readCounters 0 x) s = .next (placeReply 6 x.toNat (twoCounters s.lif.checkErrorsA s.lif.checkErrorsB)
      { s with lif.checkErrorsA := 0, lif.checkErrorsB := 0 }) ∧
    exec (.readCounters 1 x) s = .next (placeReply 6 x.toNat (twoCounters s.lif.malformedA s.lif.malformedB)
      { s with lif.malformedA := 0, lif.malformedB := 0 }) ∧
    exec (.readCounters 2 x) s = .next (placeReply 6 x.toNat (twoCounters s.lif.foreign s.lif.misdirected)
      { s with lif.foreign := 0, lif.misdirected := 0 }) ∧
    exec (.readCounters 3 x) s = .next (placeReply 6 x.toNat (twoCounters s.lif.forwardDrops s.lif.eventDrops)
      { s with lif.forwardDrops := 0, lif.eventDrops := 0 }) ∧
    exec (.readCounters 4 x) s = .next (placeReply 6 x.toNat (twoCounters s.lif.passDrops s.rqa.overrun)
      { s with lif.passDrops := 0, rqa.overrun := 0 }) ∧
    exec (.readCounters 5 x) s = .next (placeReply 6 x.toNat (twoCounters s.siu.roleMismatch s.siu.unknownSource)
      { s with siu.roleMismatch := 0, siu.unknownSource := 0 }) ∧
    exec (.readCounters 6 x) s = .next (placeReply 6 x.toNat (twoCounters s.rqa.accepted s.rqa.refused)
      { s with rqa.accepted := 0, rqa.refused := 0 }) ∧
    (∀ (g : Byte) (j : Nat), g.toNat = 16 + j → j < 8 →
      (∀ (n : Node) (ch : Channel), findNode x.toNat s = some n → n.channels[j]? = some ch →
        exec (.readCounters g x) s = .next (placeReply 6 x.toNat (twoCounters ch.outOfSpan 0) { s with
          siu.nodes := s.siu.nodes.map fun m => if m.address = x.toNat
            then { m with channels := m.channels.modify j fun ch => { ch with outOfSpan := 0 } } else m })) ∧
      ((∀ n : Node, findNode x.toNat s = some n → n.channels.length ≤ j) →
        exec (.readCounters g x) s = .next (placeReply 6 x.toNat (refused .range 0) s))) ∧
    (∀ g : Byte, 6 < g.toNat → (g.toNat < 16 ∨ 23 < g.toNat) →
      exec (.readCounters g x) s = .next (placeReply 6 x.toNat (refused .range 0) s))) ∧
  (∀ (s : State) (x : Byte), Ready s →
    (∀ (e : Completion) (rest : List Completion), s.psq.completions = e :: rest →
      exec (.senseCompletion x) s = .next (placeReply 10 e.target
        (okWith ((e.detail.getD 32768) % 65536 * 65536 + ((e.uptime.toNat % 65536 : Nat) : Int))
          (e.op.code * 16 + e.outcome.code))
        { s with psq.completions := rest })) ∧
    (s.psq.completions = [] → exec (.senseCompletion x) s = .next (placeReply 10 0 (okWith 0 0) s))) ∧
  ∀ (c : Instr) (s : State), Quiet s → s.rqa.replySlot = true → isRequest c = true →
    exec c s = .next { s with rqa.overrun := bump s.rqa.overrun }

/-- PROGRAM_IDENTITY, RESET_PART and CLEAR_UNKNOWN (R133, R183, R189): a field is programmed once, in its range, and its value in
use stays; a reset is held in DRY and WET and refused above; the unknown-address set is emptied. -/
def Obligations.CommissioningRequests : Prop :=
  ∀ (s : State) (x : Byte), Ready s →
    (∀ (f : Byte) (v : Word) (k : Fin 5), f.toNat = k.val + 1 →
      (identityRange f.toNat v.toInt = false →
        exec (.programIdentity f x v) s = .next (placeReply 21 x.toNat (refused .range 2) s)) ∧
      (identityRange f.toNat v.toInt = true → s.rqa.store.programmed[k] = true →
        exec (.programIdentity f x v) s = .next (placeReply 21 x.toNat (refused .programmed 0) s)) ∧
      (identityRange f.toNat v.toInt = true → s.rqa.store.programmed[k] = false →
        ∃ t, exec (.programIdentity f x v) s = .next (placeReply 21 x.toNat (okWith v.toInt 0) t) ∧
          t.rqa.store.stored.get f.toNat = v.toInt ∧ t.rqa.store.programmed = s.rqa.store.programmed.set k true ∧
          t.checkOk = s.checkOk.set 12 true ∧ t.rqa.inUse = s.rqa.inUse ∧
          (∀ g : Nat, 1 ≤ g → g ≤ 5 → g ≠ f.toNat → t.rqa.store.stored.get g = s.rqa.store.stored.get g))) ∧
    (∀ (f : Byte) (v : Word), (f.toNat = 0 ∨ 5 < f.toNat) →
      exec (.programIdentity f x v) s = .next (placeReply 21 x.toNat (refused .malformed 3) s)) ∧
    (stormy s = false →
      exec (.resetPart x) s = .next (placeReply 23 x.toNat (okWith 0 0) { s with rqa.heldReset := true })) ∧
    (stormy s = true → exec (.resetPart x) s = .next (placeReply 23 x.toNat (refused .posture 0) s)) ∧
    exec (.clearUnknown x) s = .next (placeReply 20 x.toNat (okWith 0 0) { s with siu.unknown := [] })

/-- Writes that are refused change nothing but their REPLY (R170, R177): a table that is not in the catalogue; a field that is
not in the table; the run-time fields of the Node Table, the commissioning store and the run-time tables (of the commissioning
store, MALFORMED, detail 4, is the model's reading, log 18); in STORM, ALERT and CLOSED the tables that R177 closes; an index
that is no installed pump, portal or zone, with RANGE and detail 1, ahead of the posture and of the value, by the model's
reading (log 16); an index outside a table, with RANGE and the detail 0 (log 16); a value outside its range in a table whose
index and posture allow the write, a node address ahead of BUSY too by the model's reading (log 44); a signal reserve above a tier limit, with RANGE and detail 3 (R69); with BUSY a pump that is
STARTING, RUNNING or STOPPING or holds a claim, a start limit below the starts recorded (R37), a gate that moves or holds a
claim (R81), a zone in test (R104), and a Node Table record whose node serves what moves, that is named in a table, or whose
channel is (R121); with TABLE a node of a wrong role or in use (R37, R81, R104, R123), thresholds, rungs and battery limits out
of order (R23, R41, R69), and a Node Table write that has no room, is too short, or finds no fitting channel, its TABLE ahead
of its BUSY for the role and the channel count (R121, log 42). -/
def Obligations.WritesRefused : Prop :=
  (∀ (s : State) (f x : Byte) (v : Word), Ready s →
    (∀ t : Byte, tableKnown t.toNat = false →
      exec (.writeField t f x v) s = .next (placeReply 5 x.toNat (refused .malformed 2) s)) ∧
    (∀ t : Byte, tableKnown t.toNat = true → fieldKnown t.toNat f.toNat = false →
      exec (.writeField t f x v) s = .next (placeReply 5 x.toNat (refused .malformed 3) s)) ∧
    (∀ t : Byte, tableKnown t.toNat = true → 13 ≤ t.toNat → fieldKnown t.toNat f.toNat = true →
      exec (.writeField t f x v) s = .next (placeReply 5 x.toNat (refused .malformed 4) s)) ∧
    (stormy s = true →
      (f.toNat ≤ 13 → exec (.writeFieldSite f x v) s = .next (placeReply 5 x.toNat (refused .posture 0) s)) ∧
      (f.toNat ≤ 2 → exec (.writeFieldNodeTable f x v) s = .next (placeReply 5 x.toNat (refused .posture 0) s)) ∧
      (f.toNat ≤ 7 → (pumpIndex x.toNat s).isSome = true →
        exec (.writeFieldPumpTable f x v) s = .next (placeReply 5 x.toNat (refused .posture 0) s)) ∧
      (f.toNat ≤ 9 → (portalIndex x.toNat s).isSome = true →
        exec (.writeFieldPortalTable f x v) s = .next (placeReply 5 x.toNat (refused .posture 0) s)) ∧
      (f.toNat ≤ 6 → (zoneIndex x.toNat s).isSome = true →
        exec (.writeFieldZoneTable f x v) s = .next (placeReply 5 x.toNat (refused .posture 0) s)) ∧
      (f.toNat ≤ 2 →
        exec (.writeFieldAuthorityTable f x v) s = .next (placeReply 5 x.toNat (refused .posture 0) s))) ∧
    (stormy s = false → x = 0 → f.toNat ≤ 13 → siteRange f.toNat v.toInt = false →
      exec (.writeFieldSite f x v) s = .next (placeReply 5 x.toNat (refused .range 2) s)) ∧
    (fieldKnown 4 f.toNat = true → fieldWritable 4 f.toNat = false →
      exec (.writeFieldNodeTable f x v) s = .next (placeReply 5 x.toNat (refused .malformed 4) s)) ∧
    (pumpIndex x.toNat s = none → f.toNat ≤ 7 →
      exec (.writeFieldPumpTable f x v) s = .next (placeReply 5 x.toNat (refused .range 1) s)) ∧
    (portalIndex x.toNat s = none → f.toNat ≤ 9 →
      exec (.writeFieldPortalTable f x v) s = .next (placeReply 5 x.toNat (refused .range 1) s)) ∧
    (zoneIndex x.toNat s = none → f.toNat ≤ 6 →
      exec (.writeFieldZoneTable f x v) s = .next (placeReply 5 x.toNat (refused .range 1) s)) ∧
    (stormy s = false → (pumpIndex x.toNat s).isSome = true → f.toNat ≤ 7 → pumpRange f.toNat v.toInt = false →
      exec (.writeFieldPumpTable f x v) s = .next (placeReply 5 x.toNat (refused .range 2) s)) ∧
    (stormy s = false → (portalIndex x.toNat s).isSome = true → f.toNat ≤ 9 → portalRange f.toNat v.toInt = false →
      exec (.writeFieldPortalTable f x v) s = .next (placeReply 5 x.toNat (refused .range 2) s)) ∧
    (stormy s = false → (zoneIndex x.toNat s).isSome = true → f.toNat ≤ 6 → zoneRange f.toNat v.toInt = false →
      exec (.writeFieldZoneTable f x v) s = .next (placeReply 5 x.toNat (refused .range 2) s)) ∧
    (stormy s = false → 1 ≤ x.toNat → x.toNat ≤ 59 → (f = 0 ∨ (findNode x.toNat s).isSome = true) →
      fieldKnown 4 f.toNat = true → fieldWritable 4 f.toNat = true → nodeRange f.toNat v.toInt = false →
      exec (.writeFieldNodeTable f x v) s = .next (placeReply 5 x.toNat (refused .range 2) s)) ∧
    ((x = 0 ∧ f = 0 ∧ (v.toInt < 0 ∨ 6 < v.toInt)) ∨
        (1 ≤ x.toNat ∧ x.toNat ≤ 6 ∧ (f = 1 ∨ f = 2) ∧ (v.toInt < 0 ∨ 15000 < v.toInt)) →
      exec (.writeFieldLevelLadder f x v) s = .next (placeReply 5 x.toNat (refused .range 2) s)) ∧
    ((x.toNat ≤ 19 ∧ 1 ≤ f.toNat ∧ f.toNat ≤ 8 ∧ (v.toInt < 0 ∨ 100 < v.toInt)) ∨
        (x = 0 ∧ 9 ≤ f.toNat ∧ f.toNat ≤ 11 ∧ (v.toInt < 1 ∨ 100000 < v.toInt)) →
      exec (.writeFieldSceneTable f x v) s = .next (placeReply 5 x.toNat (refused .range 2) s)) ∧
    (stormy s = false → (x.toNat ≤ 5 ∨ (12 ≤ x.toNat ∧ x.toNat ≤ 19 ∧ 1 ≤ f.toNat)) → f.toNat ≤ 2 →
      authorityRange f.toNat x.toNat v.toInt = false →
      exec (.writeFieldAuthorityTable f x v) s = .next (placeReply 5 x.toNat (refused .range 2) s)) ∧
    ((x = 0 ∧ f = 0) ∨ (1 ≤ x.toNat ∧ x.toNat ≤ 32 ∧ 1 ≤ f.toNat ∧ f.toNat ≤ 6) → ruleRange f.toNat v.toInt = false →
      exec (.writeFieldRuleTable f x v) s = .next (placeReply 5 x.toNat (refused .range 2) s)) ∧
    (x = 0 → f.toNat ≤ 7 → thresholdRange f.toNat v.toInt = false →
      exec (.writeFieldPostureThresholds f x v) s = .next (placeReply 5 x.toNat (refused .range 2) s)) ∧
    (x = 0 → f.toNat ≤ 8 → limitRange f.toNat v.toInt = false →
      exec (.writeFieldLoadLimits f x v) s = .next (placeReply 5 x.toNat (refused .range 2) s))) ∧
  (∀ (s : State) (f x : Byte) (v : Word), Ready s →
    let n := v.toInt.toNat
    let site : Answer → Prop := fun a => exec (.writeFieldSite f x v) s = .next (placeReply 5 x.toNat a s)
    let stage : Answer → Prop := fun a => exec (.writeFieldStageTable f x v) s = .next (placeReply 5 x.toNat a s)
    let thresholds : Answer → Prop := fun a => exec (.writeFieldPostureThresholds f x v) s = .next (placeReply 5 x.toNat a s)
    let ladder : Answer → Prop := fun a => exec (.writeFieldLevelLadder f x v) s = .next (placeReply 5 x.toNat a s)
    let limits : Answer → Prop := fun a => exec (.writeFieldLoadLimits f x v) s = .next (placeReply 5 x.toNat a s)
    let scene : Answer → Prop := fun a => exec (.writeFieldSceneTable f x v) s = .next (placeReply 5 x.toNat a s)
    let authority : Answer → Prop := fun a => exec (.writeFieldAuthorityTable f x v) s = .next (placeReply 5 x.toNat a s)
    let rules : Answer → Prop := fun a => exec (.writeFieldRuleTable f x v) s = .next (placeReply 5 x.toNat a s)
    let role : Role := match f.toNat with
      | 0 => .level
      | 1 => .flowmeter
      | 2 => .float
      | 3 => .depth
      | 4 => .depth
      | 5 => .luminance
      | _ => .supply
    let t := s.pev.thresholds.put f.toNat n
    let l := s.lda.limits.put f.toNat n
    let written : List Rung := (s.pdx.ladder.rungs.toList.zipIdx.map fun e => if e.2 + 1 = x.toNat then
      (if f = 1 then { e.1 with start := n } else if f = 2 then { e.1 with stop := n } else e.1) else e.1)
    let rungs := written.take (if f = 0 then n else s.pdx.ladder.count)
    let disordered : Bool := (rungs.any fun r => r.start ≤ r.stop) || ((rungs.zip rungs.tail).any fun e => e.2.start < e.1.start)
    (stormy s = false → f.toNat ≤ 13 → x ≠ 0 → site (refused .range 0)) ∧
    (stormy s = false → f.toNat ≤ 6 → x = 0 → 1 ≤ v.toInt → v.toInt ≤ 59 →
      ((findNode n s).any fun m => m.role = role) = false ∨ (f = 3 ∧ n = s.site.depthNode2) ∨ (f = 4 ∧ n = s.site.depthNode1) →
      site (refused .table 0)) ∧
    (s.sau.staging.isSome = true → (f.toNat ≤ 1 ∧ x ≠ 0) ∨ ((f = 2 ∨ f = 3) ∧ 15 < x.toNat) → stage (refused .range 0)) ∧
    (f.toNat ≤ 7 → x ≠ 0 → thresholds (refused .range 0)) ∧
    (f.toNat ≤ 7 → x = 0 → thresholdRange f.toNat v.toInt = true →
      t.stormLevel < t.wetLevel ∨ t.alertTime < t.closeTime ∨ t.closeDepth < t.alertDepth → thresholds (refused .table 0)) ∧
    ((f = 0 ∧ x ≠ 0) ∨ ((f = 1 ∨ f = 2) ∧ (x = 0 ∨ 6 < x.toNat)) → ladder (refused .range 0)) ∧
    ((f = 0 ∧ x = 0 ∧ 0 ≤ v.toInt ∧ v.toInt ≤ 6) ∨
        ((f = 1 ∨ f = 2) ∧ 1 ≤ x.toNat ∧ x.toNat ≤ 6 ∧ x.toNat ≤ s.pdx.ladder.count ∧ 0 ≤ v.toInt ∧ v.toInt ≤ 15000) →
      disordered = true → ladder (refused .table 0)) ∧
    (f.toNat ≤ 8 → x ≠ 0 → limits (refused .range 0)) ∧
    (f.toNat ≤ 5 → x = 0 → limitRange f.toNat v.toInt = true → l.mains < l.reserve ∨ l.generator < l.reserve ∨
        l.battery < l.reserve ∨ l.critical < l.reserve ∨ l.depleted < l.reserve → limits (refused .range 3)) ∧
    (6 ≤ f.toNat → f.toNat ≤ 8 → x = 0 → limitRange f.toNat v.toInt = true →
      l.criticalMv ≤ l.cutoffMv ∨ l.lowMv ≤ l.criticalMv → limits (refused .table 0)) ∧
    ((1 ≤ f.toNat ∧ f.toNat ≤ 8 ∧ 19 < x.toNat) ∨ (9 ≤ f.toNat ∧ f.toNat ≤ 11 ∧ x ≠ 0) → scene (refused .range 0)) ∧
    (stormy s = false → f.toNat ≤ 2 →
      (6 ≤ x.toNat ∧ x.toNat ≤ 11) ∨ 19 < x.toNat ∨ (12 ≤ x.toNat ∧ f = 0) → authority (refused .range 0)) ∧
    ((f = 0 ∧ x ≠ 0) ∨ (1 ≤ f.toNat ∧ f.toNat ≤ 6 ∧ (x = 0 ∨ 32 < x.toNat)) → rules (refused .range 0))) ∧
  (∀ (s : State) (f x : Byte) (v : Word), Ready s → stormy s = false →
    let n := v.toInt.toNat
    let pump : Answer → Prop := fun a => exec (.writeFieldPumpTable f x v) s = .next (placeReply 5 x.toNat a s)
    let portal : Answer → Prop := fun a => exec (.writeFieldPortalTable f x v) s = .next (placeReply 5 x.toNat a s)
    let zone : Answer → Prop := fun a => exec (.writeFieldZoneTable f x v) s = .next (placeReply 5 x.toNat a s)
    let unfit : Role → Bool := fun r => n ≠ 0 ∧ ((findNode n s).any fun m => m.role = r) = false
    (∀ i ∈ pumpIndex x.toNat s, f.toNat ≤ 7 → pumpRange f.toNat v.toInt = true →
      let p := s.pdx.pumps[i]
      let busy : Bool := p.state = .starting ∨ p.state = .running ∨ p.state = .stopping ∨
        (claimOf (.pump i) s.lda.claims).isSome = true ∨
        (f = 7 ∧ v.toInt < (p.starts.filter fun t => (s.uptime - t).toNat < 3600).length)
      (busy = true → pump (refused .busy 0)) ∧
      (busy = false → f = 0 → unfit .pumpStarter = true ∨
          (n ≠ 0 ∧ ∃ j : Fin 6, j ≠ i ∧ s.pdx.config[j].starterNode = n) → pump (refused .table 0))) ∧
    (∀ p ∈ portalIndex x.toNat s, f.toNat ≤ 9 → portalRange f.toNat v.toInt = true →
      let g := s.psq.portals[p]
      let busy : Bool := g.state = .homing ∨ g.state = .closing ∨ g.state = .opening ∨
        (claimOf (.gate p) s.lda.claims).isSome = true
      let other : (PortalConfig → Nat) → Bool := fun h => n ≠ 0 ∧ ∃ q : Fin 2, q ≠ p ∧ h s.psq.config[q] = n
      (busy = true → portal (refused .busy 0)) ∧
      (busy = false → (f = 0 ∧ (unfit .gateDrive = true ∨ (other fun c => c.driveNode) = true)) ∨
          (f = 1 ∧ (unfit .presence = true ∨ (other fun c => c.presenceNode) = true)) ∨
          (f = 2 ∧ (unfit .signal = true ∨ (other fun c => c.signalNode) = true)) → portal (refused .table 0))) ∧
    (∀ z ∈ zoneIndex x.toNat s, f.toNat ≤ 6 → zoneRange f.toNat v.toInt = true →
      let lamp := if f = 0 then n else s.lse.config[z].lampNode
      let channel := if f = 0 then s.lse.config[z].channel else n
      (s.lse.zones[z].test = true → zone (refused .busy 0)) ∧
      (s.lse.zones[z].test = false → f = 0 ∨ f = 1 → lamp ≠ 0 →
        ((findNode lamp s).any fun m => m.role = .lampDriver ∧ channel < m.channels.length) = false ∨
          (∃ w : Fin 8, w ≠ z ∧ s.lse.config[w].lampNode = lamp ∧ s.lse.config[w].channel = channel) →
        zone (refused .table 0)))) ∧
  ∀ (s : State) (f x : Byte) (v : Word),
    Ready s → stormy s = false → fieldKnown 4 f.toNat = true → fieldWritable 4 f.toNat = true →
    let a := x.toNat
    let replies : Answer → Prop := fun w => exec (.writeFieldNodeTable f x v) s = .next (placeReply 5 a w s)
    let records : Nat := (s.siu.nodes.map fun m => m.channels.length).sum
    let named : Bool := a ∈ [s.site.levelNode, s.site.flowNode, s.site.floatNode, s.site.depthNode1, s.site.depthNode2,
        s.site.lumNode, s.site.supplyNode] ∨ (∃ i : Fin 6, s.pdx.config[i].starterNode = a) ∨
      (∃ p : Fin 2, s.psq.config[p].driveNode = a ∨ s.psq.config[p].presenceNode = a ∨ s.psq.config[p].signalNode = a) ∨
      ∃ z : Fin 8, s.lse.config[z].lampNode = a
    let moving : Bool := (∃ i : Fin 6, s.pdx.config[i].starterNode = a ∧ (s.pdx.pumps[i].state = .starting ∨
        s.pdx.pumps[i].state = .running ∨ s.pdx.pumps[i].state = .stopping)) ∨
      ∃ p : Fin 2, s.psq.config[p].driveNode = a ∧ (s.psq.portals[p].state = .homing ∨ s.psq.portals[p].state = .closing ∨
        s.psq.portals[p].state = .opening)
    (a = 0 ∨ 59 < a → replies (refused .range 0)) ∧
    (1 ≤ a → a ≤ 59 → f ≠ 0 → findNode a s = none → replies (refused .range 0)) ∧
    (1 ≤ a → a ≤ 59 → nodeRange f.toNat v.toInt = true →
      (findNode a s = none → f = 0 → ∀ r ∈ Role.ofCode v.toInt,
        40 ≤ s.siu.nodes.length ∨ 128 < records + r.minimumCount → replies (refused .table 0)) ∧
      ∀ m ∈ findNode a s,
        (moving = true → replies (refused .busy 0)) ∧
        (moving = false →
          (f = 0 → ∀ r ∈ Role.ofCode v.toInt, r ≠ m.role →
            (128 < records - m.channels.length + r.minimumCount → replies (refused .table 0)) ∧
            (records - m.channels.length + r.minimumCount ≤ 128 → named = true → replies (refused .busy 0))) ∧
          (f = 0 → v = 0 → named = true → replies (refused .busy 0)) ∧
          (f = 1 →
            let short : Bool := v.toInt < m.role.minimumCount ∨
              ((m.channels.length : Int) < v.toInt ∧ 128 < (records : Int) - m.channels.length + v.toInt)
            (short = true → replies (refused .table 0)) ∧
            (short = false → (∃ z : Fin 8, s.lse.config[z].lampNode = a ∧ v.toInt ≤ s.lse.config[z].channel ∧
              s.lse.config[z].channel < m.channels.length) → replies (refused .busy 0))) ∧
          (16 ≤ f.toNat →
            let c := f.toNat / 16 - 1
            let g := f.toNat % 16
            let chosen : Option Channel := m.channels[c]?
            m.channels.length ≤ c ∨ (g = 4 ∧ v ≠ 0 ∧ m.role.channelKind c ≠ .digital) ∨ (g ≤ 3 ∧ m.role.channelKind c ≠ .analog) ∨
              (g = 0 ∧ ((chosen.bind fun h => h.scaling).any fun y => y.rawHigh < v.toInt) = true) ∨
              (g = 1 ∧ ((chosen.bind fun h => h.scaling).any fun y => v.toInt < y.rawLow) = true) →
            replies (refused .table 0))))

/-- Accepted writes to the Site table, the posture thresholds, the level ladder, the load limits and the rule table are stored
with a new check word and touch no other table (R23, R41, R69, R123, R156, R178). WRITE_FIELD on table 12 does what
WRITE_FIELD_RULE_TABLE does (R177). Each but the rule table's does its follow-on work and nothing else: a node of the Site
table leaves its block as after a reset, values absent and freshness NEVER (R9, R24, R65, R123), a float node with an
evaluation and a dispatch, the float copies of the PDX leaving with those of the PEV (log 21; R44, R45), a luminance node with
nothing further (R106), a depth node with an evaluation; the thresholds are evaluated (R24); the rungs are judged and a
dispatch follows (R41); the reserve, and the limit of the present tier, make a walk (R69); a takeover posture has the
authorities recomputed (R153). Running timers keep the time they have left (log 43). -/
def Obligations.SettingsStored : Prop :=
  (∀ (s : State) (f x : Byte) (v : Word), Ready s →
    (f.toNat ≤ 13 → siteRefusal f.toNat x.toNat v.toInt s = none →
      ∃ t, exec (.writeFieldSite f x v) s = .next t ∧
        t.tables = { s.tables with site := s.site.put f.toNat v.toInt.toNat } ∧ t.checkOk = s.checkOk.set 0 true) ∧
    (f.toNat ≤ 7 → x = 0 → thresholdRange f.toNat v.toInt = true →
      (s.pev.thresholds.put f.toNat v.toInt.toNat).ordered = true →
      ∃ t, exec (.writeFieldPostureThresholds f x v) s = .next t ∧
        t.tables = { s.tables with thresholds := s.pev.thresholds.put f.toNat v.toInt.toNat } ∧
        t.checkOk = s.checkOk.set 2 true) ∧
    (∀ l : Ladder, f.toNat ≤ 2 → ladderPut s.pdx.ladder f.toNat x.toNat v.toInt.toNat = some l → l.ordered = true →
      (f.toNat = 0 → 0 ≤ v.toInt ∧ v.toInt ≤ 6) → 0 ≤ v.toInt → v.toInt ≤ 15000 →
      ∃ t, exec (.writeFieldLevelLadder f x v) s = .next t ∧ t.tables = { s.tables with ladder := l } ∧
        t.checkOk = s.checkOk.set 5 true) ∧
    (f.toNat ≤ 8 → x = 0 → limitRange f.toNat v.toInt = true →
      (s.lda.limits.put f.toNat v.toInt.toNat).reserveOk = true →
      (s.lda.limits.put f.toNat v.toInt.toNat).ordered = true →
      ∃ t, exec (.writeFieldLoadLimits f x v) s = .next t ∧
        t.tables = { s.tables with limits := s.lda.limits.put f.toNat v.toInt.toNat } ∧
        t.checkOk = s.checkOk.set 6 true) ∧
    (∀ r : RuleTable, f.toNat ≤ 6 → rulePut s.cfl.rules f.toNat x.toNat v.toInt = some r →
      ruleRange f.toNat v.toInt = true →
      exec (.writeFieldRuleTable f x v) s =
        .next (placeReply 5 x.toNat (okWith v.toInt 0) { s with cfl.rules := r, checkOk := s.checkOk.set 11 true }) ∧
      exec (.writeField 12 f x v) s =
        .next (placeReply 5 x.toNat (okWith v.toInt 0) { s with cfl.rules := r, checkOk := s.checkOk.set 11 true }))) ∧
  (∀ (s : State) (f x : Byte) (v : Word), Ready s → siteRefusal f.toNat x.toNat v.toInt s = none →
    let w : State := { s with site := s.site.put f.toNat v.toInt.toNat, checkOk := s.checkOk.set 0 true }
    let does : State → Prop := fun u =>
      exec (.writeFieldSite f x v) s = .next (settle (post (.reply 5 x.toNat (okWith v.toInt 0)) u))
    (f = 0 → does { w with
      siu.marks := s.siu.marks.set Assignment.level.mark false, sau.level := none, sau.levelFresh := .never }) ∧
    (f = 1 → does { w with
      siu.marks := s.siu.marks.set Assignment.flowmeter.mark false, sau.count := none, sau.baseline := none,
      sau.flowFresh := .never }) ∧
    (f = 2 → does (post (.dispatch true) (evaluate { w with
      siu.marks := s.siu.marks.set Assignment.float.mark false, pev.lowFloat := none, pev.highFloat := none,
      pev.floatFresh := .never, pdx.lowFloat := none, pdx.highFloat := none, pdx.floatFresh := .never }))) ∧
    (f = 3 → does (evaluate { w with
      siu.marks := s.siu.marks.set Assignment.depth1.mark false, pev.depth := s.pev.depth.set 0 none,
      pev.depthFresh := s.pev.depthFresh.set 0 .never })) ∧
    (f = 4 → does (evaluate { w with
      siu.marks := s.siu.marks.set Assignment.depth2.mark false, pev.depth := s.pev.depth.set 1 none,
      pev.depthFresh := s.pev.depthFresh.set 1 .never })) ∧
    (f = 5 → does { w with siu.marks := s.siu.marks.set Assignment.luminance.mark false, lse.lumFresh := .never }) ∧
    (f = 6 → does { w with
      siu.marks := s.siu.marks.set Assignment.supply.mark false, lda.mains := none, lda.generator := none,
      lda.battery := none, lda.fresh := .never }) ∧
    (f = 12 → does (recomputeAuthority w)) ∧ ((7 ≤ f.toNat ∧ f.toNat ≤ 11) ∨ f = 13 → does w)) ∧
  ∀ (s : State) (f x : Byte) (v : Word), Ready s →
    let reply : Task := .reply 5 x.toNat (okWith v.toInt 0)
    let t := s.pev.thresholds.put f.toNat v.toInt.toNat
    let l := s.lda.limits.put f.toNat v.toInt.toNat
    let limited : State := { s with lda.limits := l, checkOk := s.checkOk.set 6 true }
    (f.toNat ≤ 7 → x = 0 → thresholdRange f.toNat v.toInt = true → t.ordered = true →
      exec (.writeFieldPostureThresholds f x v) s =
        .next (settle (post reply (evaluate { s with pev.thresholds := t, checkOk := s.checkOk.set 2 true })))) ∧
    (∀ r ∈ ladderPut s.pdx.ladder f.toNat x.toNat v.toInt.toNat, f.toNat ≤ 2 → r.ordered = true →
      (f.toNat = 0 → v.toInt ≤ 6) → 0 ≤ v.toInt → v.toInt ≤ 15000 → exec (.writeFieldLevelLadder f x v) s =
        .next (settle (post reply (dispatchOn true
          (evaluateRungs s.sau.level { s with pdx.ladder := r, checkOk := s.checkOk.set 5 true }))))) ∧
    (f.toNat ≤ 8 → x = 0 → limitRange f.toNat v.toInt = true → l.reserveOk = true → l.ordered = true →
      (f = 5 ∨ f.toNat = s.lda.tier.code → exec (.writeFieldLoadLimits f x v) s = .next (settle (post reply (walk none { limited with
        lda.claims := s.lda.claims.map fun c => if c.owner = .reserve then { c with amount := l.reserve } else c })))) ∧
      (f ≠ 5 → f.toNat ≠ s.lda.tier.code →
        exec (.writeFieldLoadLimits f x v) s = .next (settle (post reply limited))))

/-- Accepted writes to the Node Table, the pump, portal, zone, scene and authority tables are stored with a new check word and
touch no other table (R37, R81, R104, R105, R121, R153, R178). A role writes a record, new, removed or with its channels anew,
and its address leaves the unknown-address set; the channel count keeps the channels there are; a scaling field, the watch code
and a watch latch reach their channel alone; a write of the role a record has changes nothing (log 20). The scene thresholds
must rise, else TABLE. The follow-on work: a starter node loses its report and a dispatch follows, a rated flow or power makes
C_avail anew (R37, R78); a drive node or a travel makes the gate UNKNOWN with its operation ended EQUIPMENT, whose
COMPLETION_READY goes ahead of GATE_STATE by the model's choice (log 41), a presence node is NEVER, a signal node is sent its
lamps (R81, R113, log 27); a lamp node or channel re-evaluates a PART zone and sends it, and releases the claims of a zone
without a node, the upper first by the model's choice (log 52), a rated power or floor re-evaluates (R104), a zone under
SUPERVISOR having its claims matched by the model's reading (log 25); a scene level in use re-evaluates (R105); an authority is
recomputed (R153). The output image takes the nodes of the tables (R151). Running timers keep the time they have left (log 43).
-/
def Obligations.DevicesStored : Prop :=
  (∀ (s : State) (f x : Byte) (v : Word), Ready s →
    (∀ i : Fin 6, f.toNat ≤ 7 → pumpIndex x.toNat s = some i → stormy s = false → pumpRange f.toNat v.toInt = true →
      pumpBusy i f.toNat v.toInt s = false → starterTable i f.toNat v.toInt s = false →
      ∃ t, exec (.writeFieldPumpTable f x v) s = .next t ∧
        t.tables = { s.tables with pumps := s.pdx.config.set i (s.pdx.config[i].put f.toNat v.toInt.toNat) } ∧
        t.checkOk = s.checkOk.set 4 true) ∧
    (∀ p : Fin 2, f.toNat ≤ 9 → portalIndex x.toNat s = some p → stormy s = false →
      portalRange f.toNat v.toInt = true → s.psq.portals[p].state.moving = false → holdsClaim (.gate p) s = false →
      portalTable p f.toNat v.toInt s = false →
      ∃ t, exec (.writeFieldPortalTable f x v) s = .next t ∧
        t.tables = { s.tables with portals := s.psq.config.set p (s.psq.config[p].put f.toNat v.toInt.toNat) } ∧
        t.checkOk = s.checkOk.set 7 true) ∧
    (∀ z : Fin 8, f.toNat ≤ 6 → zoneIndex x.toNat s = some z → stormy s = false → zoneRange f.toNat v.toInt = true →
      s.lse.zones[z].test = false → zoneTable z f.toNat v.toInt s = false →
      ∃ t, exec (.writeFieldZoneTable f x v) s = .next t ∧
        t.tables = { s.tables with zones := s.lse.config.set z (s.lse.config[z].put f.toNat v.toInt.toNat) } ∧
        t.checkOk = s.checkOk.set 8 true) ∧
    (∀ c : Scene, 1 ≤ f.toNat → f.toNat ≤ 8 → scenePut s.lse.scene f.toNat x.toNat v.toInt.toNat = some c →
      0 ≤ v.toInt → v.toInt ≤ 100 →
      ∃ t, exec (.writeFieldSceneTable f x v) s = .next t ∧ t.tables = { s.tables with scene := c } ∧
        t.checkOk = s.checkOk.set 9 true) ∧
    (∀ a : AuthorityTable, f.toNat ≤ 2 → authorityPut s.cfl.authority f.toNat x.toNat v.toInt = some a →
      stormy s = false → authorityRange f.toNat x.toNat v.toInt = true →
      ∃ t, exec (.writeFieldAuthorityTable f x v) s = .next t ∧ t.tables = { s.tables with authority := a } ∧
        t.checkOk = s.checkOk.set 10 true)) ∧
  (∀ (s : State) (f x : Byte) (v : Word), Ready s →
    fieldWritable 4 f.toNat = true → fieldKnown 4 f.toNat = true → nodeRefusal f.toNat x.toNat v.toInt s = none →
      ∃ t, exec (.writeFieldNodeTable f x v) s = .next t ∧
        t.tables = { s.tables with nodes := t.siu.nodes } ∧ t.checkOk = s.checkOk.set 3 true ∧
        (∀ b : Nat, b ≠ x.toNat → findNode b t = findNode b s) ∧
        (f = 0 → v = 0 → findNode x.toNat t = none ∧ t.siu.unknown = s.siu.unknown) ∧
        (f = 0 → ∀ r ∈ Role.ofCode v.toInt,
          let channels := (List.range r.minimumCount).map fun j => Channel.fresh (r.channelKind j)
          (findNode x.toNat s = none →
            findNode x.toNat t = some { address := x.toNat, role := r, staleTime := 10, freshness := .never,
                                        staleTimer := none, channels := channels } ∧
            t.siu.unknown = s.siu.unknown.filter (· ≠ x.toNat)) ∧
          ∀ n ∈ findNode x.toNat s, t.siu.unknown = s.siu.unknown ∧ findNode x.toNat t = some (if n.role = r then n
            else { n with role := r, freshness := .never, staleTimer := none, channels := channels })) ∧
        ∀ n ∈ findNode x.toNat s,
          (f = 1 → findNode x.toNat t = some { n with
            channels := (List.range v.toInt.toNat).map fun j =>
              (n.channels[j]?).getD (Channel.fresh (n.role.channelKind j)) }) ∧
          (f = 2 → findNode x.toNat t = some { n with staleTime := v.toInt.toNat }) ∧
          (16 ≤ f.toNat →
            let chosen : Option Channel := n.channels[f.toNat / 16 - 1]?
            ∀ old ∈ chosen,
            let scaled : (Scaling → Scaling) → Channel := fun g => { old with scaling := old.scaling.map g }
            findNode x.toNat t = some { n with
              channels := n.channels.set (f.toNat / 16 - 1) (match f.toNat % 16 with
                | 0 => scaled fun y => { y with rawLow := v.toInt }
                | 1 => scaled fun y => { y with rawHigh := v.toInt }
                | 2 => scaled fun y => { y with engLow := v.toInt }
                | 3 => scaled fun y => { y with engHigh := v.toInt }
                | 4 => { old with watch := (WatchCode.ofCode v.toInt).getD old.watch, latch := false }
                | _ => { old with latch := false }) })) ∧
  (∀ (s : State) (f x : Byte) (v : Word), Ready s → 9 ≤ f.toNat → f.toNat ≤ 11 → x = 0 → 1 ≤ v.toInt → v.toInt ≤ 100000 →
    let c : Scene := { s.lse.scene with
      t1 := if f = 9 then v.toInt.toNat else s.lse.scene.t1
      t2 := if f = 10 then v.toInt.toNat else s.lse.scene.t2
      t3 := if f = 11 then v.toInt.toNat else s.lse.scene.t3 }
    (c.t1 < c.t2 → c.t2 < c.t3 → exec (.writeFieldSceneTable f x v) s =
      .next (placeReply 5 x.toNat (okWith v.toInt 0) { s with lse.scene := c, checkOk := s.checkOk.set 9 true })) ∧
    (c.t2 ≤ c.t1 ∨ c.t3 ≤ c.t2 → exec (.writeFieldSceneTable f x v) s =
      .next (placeReply 5 x.toNat (refused .table 0) s))) ∧
  (∀ (s : State) (k : Fin 20),
    let node : Nat × Nat := match outputOf k with
      | .pump i => (s.pdx.config[i].starterNode, 0)
      | .gate p => (s.psq.config[p].driveNode, 0)
      | .beacon p => (s.psq.config[p].signalNode, 0)
      | .stopLamp p => (s.psq.config[p].signalNode, 1)
      | .zone z => (s.lse.config[z].lampNode, s.lse.config[z].channel)
    let e := s.cfl.slots[k]
    (recordNodes s).cfl.slots[k] = (if slotInstalled k s = true then { e with
      node := node.1, channel := node.2, emitted := if (e.node, e.channel) = node then e.emitted else none } else e) ∧
    recordNodes s = { s with cfl.slots := (recordNodes s).cfl.slots }) ∧
  (∀ (s : State) (f x : Byte) (v : Word) (i : Fin 6),
    Ready s → pumpIndex x.toNat s = some i → stormy s = false → f.toNat ≤ 7 → pumpRange f.toNat v.toInt = true →
    pumpBusy i f.toNat v.toInt s = false → starterTable i f.toNat v.toInt s = false →
    let w : State := { s with
      pdx.config := s.pdx.config.set i (s.pdx.config[i].put f.toNat v.toInt.toNat), checkOk := s.checkOk.set 4 true }
    let does : State → Prop := fun u =>
      exec (.writeFieldPumpTable f x v) s = .next (settle (post (.reply 5 x.toNat (okWith v.toInt 0)) u))
    (f = 0 → does (post (.dispatch true) (recordNodes { w with
      siu.marks := s.siu.marks.set (Assignment.starter i).mark false,
      pdx.pumps := s.pdx.pumps.set i { s.pdx.pumps[i] with report := none, fresh := .never } }))) ∧
    (f = 1 ∨ f = 2 → does (recomputeCAvail w)) ∧ (3 ≤ f.toNat → does w)) ∧
  (∀ (s : State) (f x : Byte) (v : Word) (p : Fin 2),
    Ready s → portalIndex x.toNat s = some p → stormy s = false → f.toNat ≤ 9 → portalRange f.toNat v.toInt = true →
    s.psq.portals[p].state.moving = false → holdsClaim (.gate p) s = false → portalTable p f.toNat v.toInt s = false →
    let g := s.psq.portals[p]
    let w : State := { s with
      psq.config := s.psq.config.set p (s.psq.config[p].put f.toNat v.toInt.toNat), checkOk := s.checkOk.set 7 true }
    let marked : Assignment → State := fun a => { w with siu.marks := s.siu.marks.set a.mark false }
    let does : State → Prop := fun u =>
      exec (.writeFieldPortalTable f x v) s = .next (settle (post (.reply 5 x.toNat (okWith v.toInt 0)) u))
    let lost : Freshness → State → State := fun heard u =>
      let ended := match g.op with
        | some op => emit .completionReady (p.val + 1) 0 op.code OpOutcome.equipment.code { u with
            psq.inFlight := s.psq.inFlight - 1
            psq.completions := entriesAfter p .equipment none s }
        | none => u
      let there : State := { ended with psq.portals := s.psq.portals.set p { g with
        position := none, target := none, fault := none, closedBy := none, warned := false, powerWait := false, op := none,
        warning := none, clear := none, holdLong := none, progress := none, homing := none, driveFresh := heard } }
      if g.state = .unknown then there else gateAnnounced p .unknown .request there
    (f = 0 → does (lost .never (recordNodes (marked (.drive p))))) ∧ (f = 3 → does (lost g.driveFresh w)) ∧
    (f = 1 → does (takeDelivery (.presence p) { fresh := some .never, channel := 0, value := none, flags := 0 }
      { marked (.presence p) with psq.portals := s.psq.portals.set p { g with presenceValue := none } })) ∧
    (f = 2 →
      let r := recordNodes (marked (.signal p))
      let lamps := aspects s.lse.gates[p] s.lse.posture
      let sent : Fin 20 → Int → Slot := fun k a => { r.cfl.slots[k] with
        target := some a, pending := true, source := some .engine, cls := some .safety }
      partHas (beaconSlot p) s = true → partHas (stopSlot p) s = true → does { r with
        cfl.slots := (r.cfl.slots.set (beaconSlot p) (sent (beaconSlot p) lamps.1)).set (stopSlot p)
          (sent (stopSlot p) lamps.2) }) ∧
    (4 ≤ f.toNat → does w)) ∧
  (∀ (s : State) (f x : Byte) (v : Word) (z : Fin 8),
    Ready s → zoneIndex x.toNat s = some z → stormy s = false → f.toNat ≤ 6 → zoneRange f.toNat v.toInt = true →
    s.lse.zones[z].test = false → zoneTable z f.toNat v.toInt s = false →
    let r := s.lse.zones[z]
    let w : State := { s with
      lse.config := s.lse.config.set z (s.lse.config[z].put f.toNat v.toInt.toNat), checkOk := s.checkOk.set 8 true }
    let c := w.lse.config[z]
    let does : State → Prop := fun u =>
      exec (.writeFieldZoneTable f x v) s = .next (settle (post (.reply 5 x.toNat (okWith v.toInt 0)) u))
    let rewired : Zone := { r with lowCount := 0, goodCount := 0, lampFresh := if f = 0 then .never else r.lampFresh }
    let sent : State := recordNodes { w with
      siu.marks := s.siu.marks.set (Assignment.lamp z).mark false, lse.zones := s.lse.zones.set z rewired }
    let lit := runTask (.zone z) sent
    (f = 0 ∨ f = 1 → assigned (.lamp z) sent = false → does { release (.floor z) (release (.upper z) sent) with
      lse.zones := s.lse.zones.set z { rewired with output := 0 } }) ∧
    (f = 0 ∨ f = 1 → assigned (.lamp z) sent = true → partHas (zoneSlot z) s = true → does { lit with
      cfl.slots := lit.cfl.slots.set (zoneSlot z) { lit.cfl.slots[zoneSlot z] with
        target := some (lit.lse.zones[z].output : Int), pending := true, source := some .engine, cls := some .ordinary } }) ∧
    (f = 2 ∨ f = 4 → partHas (zoneSlot z) s = true → does (runTask (.zone z) w)) ∧
    (f = 2 ∨ f = 4 → partHas (zoneSlot z) s = false → assigned (.lamp z) w = false → does w) ∧
    (partHas (zoneSlot z) s = false →
      (f = 2 ∨ f = 4) ∧ assigned (.lamp z) w = true ∨ (f = 0 ∨ f = 1) ∧ assigned (.lamp z) sent = true →
      ∃ u, exec (.writeFieldZoneTable f x v) s = .next (settle u) ∧
        let d := u.lse.zones[z].desired
        u.lse.zones[z].output = d ∧ u.lse.zones[z].part = .full ∧
        (d = r.desired ∨ d = min r.desired c.floor ∨ d = 0) ∧
        (d ≠ r.desired → u.cfl.slots[zoneSlot z].target = some (d : Int) ∧ u.cfl.slots[zoneSlot z].source = some .shed) ∧
        (claimOf (.floor z) u.lda.claims).map (·.amount) =
          (if 0 < d then some ((c.ratedPower * min d c.floor + 99) / 100) else none) ∧
        (claimOf (.upper z) u.lda.claims).map (·.amount) =
          (if c.floor < d then some ((c.ratedPower * (d - c.floor) + 99) / 100) else none)) ∧
    (f = 3 ∨ f = 5 → does w) ∧ (f = 6 → does (recomputeAuthority w))) ∧
  ∀ (s : State) (f x : Byte) (v : Word), Ready s → 0 ≤ v.toInt →
    let reply : Task := .reply 5 x.toNat (okWith v.toInt 0)
    (∀ c ∈ scenePut s.lse.scene f.toNat x.toNat v.toInt.toNat, 1 ≤ f.toNat → f.toNat ≤ 8 → v.toInt ≤ 100 →
      ∀ z : Fin 8, f.toNat = z.val + 1 →
        let w : State := { s with lse.scene := c, checkOk := s.checkOk.set 9 true }
        let does : State → Prop := fun u => exec (.writeFieldSceneTable f x v) s = .next (settle (post reply u))
        let present : Bool := x.toNat = s.lse.posture.code * 4 + s.lse.band.code
        (present = false → does w) ∧ (present = true → s.lse.zones[z].test = false → does (runTask (.zone z) w)) ∧
        (present = true → s.lse.zones[z].test = true → zoneInstalled z s = true → partHas (zoneSlot z) s = true →
          does { w with lse.zones := s.lse.zones.set z { s.lse.zones[z] with desired := v.toInt.toNat } })) ∧
    (∀ a ∈ authorityPut s.cfl.authority f.toNat x.toNat v.toInt, f.toNat ≤ 2 → stormy s = false →
      authorityRange f.toNat x.toNat v.toInt = true →
      let w : State := { s with cfl.authority := a, checkOk := s.checkOk.set 10 true }
      exec (.writeFieldAuthorityTable f x v) s =
        .next (settle (post reply (if f.toNat ≤ 1 then recomputeAuthority w else w))))

end
end

