-- ==== Sys2Proof/Laws/State.lean ====
section
/-! SUPPORT. What each shared operation leaves alone: one lemma for a field of State, or of a block of it, and an operation.
No later proof need unfold an update to read another block. -/

namespace Sys2Proof.Machine

/-! ## Places of a vector -/

@[simp] theorem upd_same {α : Type} {n : Nat} (v : Vector α n) (i : Fin n) (f : α → α) : (upd v i f)[i] = f v[i] := by
  simp [upd]

theorem upd_other {α : Type} {n : Nat} (v : Vector α n) (i j : Fin n) (f : α → α) (h : i ≠ j) :
    (upd v i f)[j] = v[j] := by
  have : i.val ≠ j.val := fun e => h (Fin.ext e)
  simp [upd, Vector.getElem_set_ne, this]

@[simp] theorem each_at {α β : Type} {n : Nat} (v : Vector α n) (f : α → β) (i : Fin n) : (each v f)[i] = f v[i] := by
  simp [each]

/-! ## Records of pumps, gates and zones -/

@[simp] theorem setPump_pending (i : Fin 6) (f : Pump → Pump) (s : State) : (setPump i f s).pending = s.pending := rfl
@[simp] theorem setPump_agenda (i : Fin 6) (f : Pump → Pump) (s : State) : (setPump i f s).agenda = s.agenda := rfl
@[simp] theorem setPump_choices (i : Fin 6) (f : Pump → Pump) (s : State) : (setPump i f s).choices = s.choices := rfl
@[simp] theorem setPump_uptime (i : Fin 6) (f : Pump → Pump) (s : State) : (setPump i f s).uptime = s.uptime := rfl
@[simp] theorem setPump_running (i : Fin 6) (f : Pump → Pump) (s : State) : (setPump i f s).running = s.running := rfl
@[simp] theorem setPump_site (i : Fin 6) (f : Pump → Pump) (s : State) : (setPump i f s).site = s.site := rfl
@[simp] theorem setPump_checkOk (i : Fin 6) (f : Pump → Pump) (s : State) : (setPump i f s).checkOk = s.checkOk := rfl
@[simp] theorem setPump_lif (i : Fin 6) (f : Pump → Pump) (s : State) : (setPump i f s).lif = s.lif := rfl
@[simp] theorem setPump_siu (i : Fin 6) (f : Pump → Pump) (s : State) : (setPump i f s).siu = s.siu := rfl
@[simp] theorem setPump_sau (i : Fin 6) (f : Pump → Pump) (s : State) : (setPump i f s).sau = s.sau := rfl
@[simp] theorem setPump_pev (i : Fin 6) (f : Pump → Pump) (s : State) : (setPump i f s).pev = s.pev := rfl
@[simp] theorem setPump_lda (i : Fin 6) (f : Pump → Pump) (s : State) : (setPump i f s).lda = s.lda := rfl
@[simp] theorem setPump_psq (i : Fin 6) (f : Pump → Pump) (s : State) : (setPump i f s).psq = s.psq := rfl
@[simp] theorem setPump_lse (i : Fin 6) (f : Pump → Pump) (s : State) : (setPump i f s).lse = s.lse := rfl
@[simp] theorem setPump_cfl (i : Fin 6) (f : Pump → Pump) (s : State) : (setPump i f s).cfl = s.cfl := rfl
@[simp] theorem setPump_rqa (i : Fin 6) (f : Pump → Pump) (s : State) : (setPump i f s).rqa = s.rqa := rfl
@[simp] theorem setPump_pdx_config (i : Fin 6) (f : Pump → Pump) (s : State) :
    (setPump i f s).pdx.config = s.pdx.config :=
  rfl
@[simp] theorem setPump_pdx_roster (i : Fin 6) (f : Pump → Pump) (s : State) :
    (setPump i f s).pdx.roster = s.pdx.roster :=
  rfl
@[simp] theorem setPump_pdx_faultSet (i : Fin 6) (f : Pump → Pump) (s : State) :
    (setPump i f s).pdx.faultSet = s.pdx.faultSet :=
  rfl
@[simp] theorem setPump_pdx_lockoutSet (i : Fin 6) (f : Pump → Pump) (s : State) :
    (setPump i f s).pdx.lockoutSet = s.pdx.lockoutSet :=
  rfl
@[simp] theorem setPump_pdx_ladder (i : Fin 6) (f : Pump → Pump) (s : State) :
    (setPump i f s).pdx.ladder = s.pdx.ladder :=
  rfl
@[simp] theorem setPump_pdx_active (i : Fin 6) (f : Pump → Pump) (s : State) :
    (setPump i f s).pdx.active = s.pdx.active :=
  rfl
@[simp] theorem setPump_pdx_demand (i : Fin 6) (f : Pump → Pump) (s : State) :
    (setPump i f s).pdx.demand = s.pdx.demand :=
  rfl
@[simp] theorem setPump_pdx_posture (i : Fin 6) (f : Pump → Pump) (s : State) :
    (setPump i f s).pdx.posture = s.pdx.posture :=
  rfl
@[simp] theorem setPump_pdx_held (i : Fin 6) (f : Pump → Pump) (s : State) : (setPump i f s).pdx.held = s.pdx.held :=
  rfl
@[simp] theorem setPump_pdx_inflow (i : Fin 6) (f : Pump → Pump) (s : State) :
    (setPump i f s).pdx.inflow = s.pdx.inflow :=
  rfl
@[simp] theorem setPump_pdx_lowFloat (i : Fin 6) (f : Pump → Pump) (s : State) :
    (setPump i f s).pdx.lowFloat = s.pdx.lowFloat :=
  rfl
@[simp] theorem setPump_pdx_highFloat (i : Fin 6) (f : Pump → Pump) (s : State) :
    (setPump i f s).pdx.highFloat = s.pdx.highFloat :=
  rfl
@[simp] theorem setPump_pdx_floatFresh (i : Fin 6) (f : Pump → Pump) (s : State) :
    (setPump i f s).pdx.floatFresh = s.pdx.floatFresh :=
  rfl
@[simp] theorem setPump_pumps (i : Fin 6) (f : Pump → Pump) (s : State) :
    (setPump i f s).pdx.pumps = upd s.pdx.pumps i f :=
  rfl
@[simp] theorem setGate_pending (i : Fin 2) (f : Portal → Portal) (s : State) : (setGate i f s).pending = s.pending :=
  rfl
@[simp] theorem setGate_agenda (i : Fin 2) (f : Portal → Portal) (s : State) : (setGate i f s).agenda = s.agenda := rfl
@[simp] theorem setGate_choices (i : Fin 2) (f : Portal → Portal) (s : State) : (setGate i f s).choices = s.choices :=
  rfl
@[simp] theorem setGate_uptime (i : Fin 2) (f : Portal → Portal) (s : State) : (setGate i f s).uptime = s.uptime := rfl
@[simp] theorem setGate_running (i : Fin 2) (f : Portal → Portal) (s : State) : (setGate i f s).running = s.running :=
  rfl
@[simp] theorem setGate_site (i : Fin 2) (f : Portal → Portal) (s : State) : (setGate i f s).site = s.site := rfl
@[simp] theorem setGate_checkOk (i : Fin 2) (f : Portal → Portal) (s : State) : (setGate i f s).checkOk = s.checkOk :=
  rfl
@[simp] theorem setGate_lif (i : Fin 2) (f : Portal → Portal) (s : State) : (setGate i f s).lif = s.lif := rfl
@[simp] theorem setGate_siu (i : Fin 2) (f : Portal → Portal) (s : State) : (setGate i f s).siu = s.siu := rfl
@[simp] theorem setGate_sau (i : Fin 2) (f : Portal → Portal) (s : State) : (setGate i f s).sau = s.sau := rfl
@[simp] theorem setGate_pev (i : Fin 2) (f : Portal → Portal) (s : State) : (setGate i f s).pev = s.pev := rfl
@[simp] theorem setGate_pdx (i : Fin 2) (f : Portal → Portal) (s : State) : (setGate i f s).pdx = s.pdx := rfl
@[simp] theorem setGate_lda (i : Fin 2) (f : Portal → Portal) (s : State) : (setGate i f s).lda = s.lda := rfl
@[simp] theorem setGate_lse (i : Fin 2) (f : Portal → Portal) (s : State) : (setGate i f s).lse = s.lse := rfl
@[simp] theorem setGate_cfl (i : Fin 2) (f : Portal → Portal) (s : State) : (setGate i f s).cfl = s.cfl := rfl
@[simp] theorem setGate_rqa (i : Fin 2) (f : Portal → Portal) (s : State) : (setGate i f s).rqa = s.rqa := rfl
@[simp] theorem setGate_psq_config (i : Fin 2) (f : Portal → Portal) (s : State) :
    (setGate i f s).psq.config = s.psq.config :=
  rfl
@[simp] theorem setGate_psq_completions (i : Fin 2) (f : Portal → Portal) (s : State) :
    (setGate i f s).psq.completions = s.psq.completions :=
  rfl
@[simp] theorem setGate_psq_inFlight (i : Fin 2) (f : Portal → Portal) (s : State) :
    (setGate i f s).psq.inFlight = s.psq.inFlight :=
  rfl
@[simp] theorem setGate_psq_posture (i : Fin 2) (f : Portal → Portal) (s : State) :
    (setGate i f s).psq.posture = s.psq.posture :=
  rfl
@[simp] theorem setGate_portals (i : Fin 2) (f : Portal → Portal) (s : State) :
    (setGate i f s).psq.portals = upd s.psq.portals i f :=
  rfl
@[simp] theorem setZone_pending (i : Fin 8) (f : Zone → Zone) (s : State) : (setZone i f s).pending = s.pending := rfl
@[simp] theorem setZone_agenda (i : Fin 8) (f : Zone → Zone) (s : State) : (setZone i f s).agenda = s.agenda := rfl
@[simp] theorem setZone_choices (i : Fin 8) (f : Zone → Zone) (s : State) : (setZone i f s).choices = s.choices := rfl
@[simp] theorem setZone_uptime (i : Fin 8) (f : Zone → Zone) (s : State) : (setZone i f s).uptime = s.uptime := rfl
@[simp] theorem setZone_running (i : Fin 8) (f : Zone → Zone) (s : State) : (setZone i f s).running = s.running := rfl
@[simp] theorem setZone_site (i : Fin 8) (f : Zone → Zone) (s : State) : (setZone i f s).site = s.site := rfl
@[simp] theorem setZone_checkOk (i : Fin 8) (f : Zone → Zone) (s : State) : (setZone i f s).checkOk = s.checkOk := rfl
@[simp] theorem setZone_lif (i : Fin 8) (f : Zone → Zone) (s : State) : (setZone i f s).lif = s.lif := rfl
@[simp] theorem setZone_siu (i : Fin 8) (f : Zone → Zone) (s : State) : (setZone i f s).siu = s.siu := rfl
@[simp] theorem setZone_sau (i : Fin 8) (f : Zone → Zone) (s : State) : (setZone i f s).sau = s.sau := rfl
@[simp] theorem setZone_pev (i : Fin 8) (f : Zone → Zone) (s : State) : (setZone i f s).pev = s.pev := rfl
@[simp] theorem setZone_pdx (i : Fin 8) (f : Zone → Zone) (s : State) : (setZone i f s).pdx = s.pdx := rfl
@[simp] theorem setZone_lda (i : Fin 8) (f : Zone → Zone) (s : State) : (setZone i f s).lda = s.lda := rfl
@[simp] theorem setZone_psq (i : Fin 8) (f : Zone → Zone) (s : State) : (setZone i f s).psq = s.psq := rfl
@[simp] theorem setZone_cfl (i : Fin 8) (f : Zone → Zone) (s : State) : (setZone i f s).cfl = s.cfl := rfl
@[simp] theorem setZone_rqa (i : Fin 8) (f : Zone → Zone) (s : State) : (setZone i f s).rqa = s.rqa := rfl
@[simp] theorem setZone_lse_config (i : Fin 8) (f : Zone → Zone) (s : State) :
    (setZone i f s).lse.config = s.lse.config :=
  rfl
@[simp] theorem setZone_lse_scene (i : Fin 8) (f : Zone → Zone) (s : State) : (setZone i f s).lse.scene = s.lse.scene :=
  rfl
@[simp] theorem setZone_lse_band (i : Fin 8) (f : Zone → Zone) (s : State) : (setZone i f s).lse.band = s.lse.band :=
  rfl
@[simp] theorem setZone_lse_lumFresh (i : Fin 8) (f : Zone → Zone) (s : State) :
    (setZone i f s).lse.lumFresh = s.lse.lumFresh :=
  rfl
@[simp] theorem setZone_lse_gates (i : Fin 8) (f : Zone → Zone) (s : State) : (setZone i f s).lse.gates = s.lse.gates :=
  rfl
@[simp] theorem setZone_lse_posture (i : Fin 8) (f : Zone → Zone) (s : State) :
    (setZone i f s).lse.posture = s.lse.posture :=
  rfl
@[simp] theorem setZone_zones (i : Fin 8) (f : Zone → Zone) (s : State) :
    (setZone i f s).lse.zones = upd s.lse.zones i f :=
  rfl

/-! ## The agenda -/

@[simp] theorem post_pending (t : Task) (s : State) : (post t s).pending = s.pending := rfl
@[simp] theorem post_choices (t : Task) (s : State) : (post t s).choices = s.choices := rfl
@[simp] theorem post_uptime (t : Task) (s : State) : (post t s).uptime = s.uptime := rfl
@[simp] theorem post_running (t : Task) (s : State) : (post t s).running = s.running := rfl
@[simp] theorem post_site (t : Task) (s : State) : (post t s).site = s.site := rfl
@[simp] theorem post_checkOk (t : Task) (s : State) : (post t s).checkOk = s.checkOk := rfl
@[simp] theorem post_lif (t : Task) (s : State) : (post t s).lif = s.lif := rfl
@[simp] theorem post_siu (t : Task) (s : State) : (post t s).siu = s.siu := rfl
@[simp] theorem post_sau (t : Task) (s : State) : (post t s).sau = s.sau := rfl
@[simp] theorem post_pev (t : Task) (s : State) : (post t s).pev = s.pev := rfl
@[simp] theorem post_pdx (t : Task) (s : State) : (post t s).pdx = s.pdx := rfl
@[simp] theorem post_lda (t : Task) (s : State) : (post t s).lda = s.lda := rfl
@[simp] theorem post_psq (t : Task) (s : State) : (post t s).psq = s.psq := rfl
@[simp] theorem post_lse (t : Task) (s : State) : (post t s).lse = s.lse := rfl
@[simp] theorem post_cfl (t : Task) (s : State) : (post t s).cfl = s.cfl := rfl
@[simp] theorem post_rqa (t : Task) (s : State) : (post t s).rqa = s.rqa := rfl
@[simp] theorem post_agenda (t : Task) (s : State) : (post t s).agenda = s.agenda ++ [t] := rfl
@[simp] theorem postAll_pending (ts : List Task) (s : State) : (postAll ts s).pending = s.pending := rfl
@[simp] theorem postAll_choices (ts : List Task) (s : State) : (postAll ts s).choices = s.choices := rfl
@[simp] theorem postAll_uptime (ts : List Task) (s : State) : (postAll ts s).uptime = s.uptime := rfl
@[simp] theorem postAll_running (ts : List Task) (s : State) : (postAll ts s).running = s.running := rfl
@[simp] theorem postAll_site (ts : List Task) (s : State) : (postAll ts s).site = s.site := rfl
@[simp] theorem postAll_checkOk (ts : List Task) (s : State) : (postAll ts s).checkOk = s.checkOk := rfl
@[simp] theorem postAll_lif (ts : List Task) (s : State) : (postAll ts s).lif = s.lif := rfl
@[simp] theorem postAll_siu (ts : List Task) (s : State) : (postAll ts s).siu = s.siu := rfl
@[simp] theorem postAll_sau (ts : List Task) (s : State) : (postAll ts s).sau = s.sau := rfl
@[simp] theorem postAll_pev (ts : List Task) (s : State) : (postAll ts s).pev = s.pev := rfl
@[simp] theorem postAll_pdx (ts : List Task) (s : State) : (postAll ts s).pdx = s.pdx := rfl
@[simp] theorem postAll_lda (ts : List Task) (s : State) : (postAll ts s).lda = s.lda := rfl
@[simp] theorem postAll_psq (ts : List Task) (s : State) : (postAll ts s).psq = s.psq := rfl
@[simp] theorem postAll_lse (ts : List Task) (s : State) : (postAll ts s).lse = s.lse := rfl
@[simp] theorem postAll_cfl (ts : List Task) (s : State) : (postAll ts s).cfl = s.cfl := rfl
@[simp] theorem postAll_rqa (ts : List Task) (s : State) : (postAll ts s).rqa = s.rqa := rfl
@[simp] theorem postAll_agenda (ts : List Task) (s : State) : (postAll ts s).agenda = s.agenda ++ ts := rfl
@[simp] theorem postUnordered_pending (ts : List Task) (s : State) : (postUnordered ts s).pending = s.pending := by
  unfold postUnordered; split <;> rfl
@[simp] theorem postUnordered_uptime (ts : List Task) (s : State) : (postUnordered ts s).uptime = s.uptime := by
  unfold postUnordered; split <;> rfl
@[simp] theorem postUnordered_running (ts : List Task) (s : State) : (postUnordered ts s).running = s.running := by
  unfold postUnordered; split <;> rfl
@[simp] theorem postUnordered_site (ts : List Task) (s : State) : (postUnordered ts s).site = s.site := by
  unfold postUnordered; split <;> rfl
@[simp] theorem postUnordered_checkOk (ts : List Task) (s : State) : (postUnordered ts s).checkOk = s.checkOk := by
  unfold postUnordered; split <;> rfl
@[simp] theorem postUnordered_lif (ts : List Task) (s : State) : (postUnordered ts s).lif = s.lif := by
  unfold postUnordered; split <;> rfl
@[simp] theorem postUnordered_siu (ts : List Task) (s : State) : (postUnordered ts s).siu = s.siu := by
  unfold postUnordered; split <;> rfl
@[simp] theorem postUnordered_sau (ts : List Task) (s : State) : (postUnordered ts s).sau = s.sau := by
  unfold postUnordered; split <;> rfl
@[simp] theorem postUnordered_pev (ts : List Task) (s : State) : (postUnordered ts s).pev = s.pev := by
  unfold postUnordered; split <;> rfl
@[simp] theorem postUnordered_pdx (ts : List Task) (s : State) : (postUnordered ts s).pdx = s.pdx := by
  unfold postUnordered; split <;> rfl
@[simp] theorem postUnordered_lda (ts : List Task) (s : State) : (postUnordered ts s).lda = s.lda := by
  unfold postUnordered; split <;> rfl
@[simp] theorem postUnordered_psq (ts : List Task) (s : State) : (postUnordered ts s).psq = s.psq := by
  unfold postUnordered; split <;> rfl
@[simp] theorem postUnordered_lse (ts : List Task) (s : State) : (postUnordered ts s).lse = s.lse := by
  unfold postUnordered; split <;> rfl
@[simp] theorem postUnordered_cfl (ts : List Task) (s : State) : (postUnordered ts s).cfl = s.cfl := by
  unfold postUnordered; split <;> rfl
@[simp] theorem postUnordered_rqa (ts : List Task) (s : State) : (postUnordered ts s).rqa = s.rqa := by
  unfold postUnordered; split <;> rfl

/-! ## The queues of the Loop Interface -/

@[simp] theorem dropEntry_pending (k : EntryKind) (s : State) : (dropEntry k s).pending = s.pending :=
  by cases k <;> rfl
@[simp] theorem dropEntry_agenda (k : EntryKind) (s : State) : (dropEntry k s).agenda = s.agenda := by cases k <;> rfl
@[simp] theorem dropEntry_choices (k : EntryKind) (s : State) : (dropEntry k s).choices = s.choices :=
  by cases k <;> rfl
@[simp] theorem dropEntry_uptime (k : EntryKind) (s : State) : (dropEntry k s).uptime = s.uptime := by cases k <;> rfl
@[simp] theorem dropEntry_running (k : EntryKind) (s : State) : (dropEntry k s).running = s.running :=
  by cases k <;> rfl
@[simp] theorem dropEntry_site (k : EntryKind) (s : State) : (dropEntry k s).site = s.site := by cases k <;> rfl
@[simp] theorem dropEntry_checkOk (k : EntryKind) (s : State) : (dropEntry k s).checkOk = s.checkOk :=
  by cases k <;> rfl
@[simp] theorem dropEntry_siu (k : EntryKind) (s : State) : (dropEntry k s).siu = s.siu := by cases k <;> rfl
@[simp] theorem dropEntry_sau (k : EntryKind) (s : State) : (dropEntry k s).sau = s.sau := by cases k <;> rfl
@[simp] theorem dropEntry_pev (k : EntryKind) (s : State) : (dropEntry k s).pev = s.pev := by cases k <;> rfl
@[simp] theorem dropEntry_pdx (k : EntryKind) (s : State) : (dropEntry k s).pdx = s.pdx := by cases k <;> rfl
@[simp] theorem dropEntry_lda (k : EntryKind) (s : State) : (dropEntry k s).lda = s.lda := by cases k <;> rfl
@[simp] theorem dropEntry_psq (k : EntryKind) (s : State) : (dropEntry k s).psq = s.psq := by cases k <;> rfl
@[simp] theorem dropEntry_lse (k : EntryKind) (s : State) : (dropEntry k s).lse = s.lse := by cases k <;> rfl
@[simp] theorem dropEntry_cfl (k : EntryKind) (s : State) : (dropEntry k s).cfl = s.cfl := by cases k <;> rfl
@[simp] theorem dropEntry_rqa (k : EntryKind) (s : State) : (dropEntry k s).rqa = s.rqa := by cases k <;> rfl
@[simp] theorem dropEntry_lif_headSending (k : EntryKind) (s : State) :
    (dropEntry k s).lif.headSending = s.lif.headSending :=
  by cases k <;> rfl
@[simp] theorem dropEntry_lif_txA (k : EntryKind) (s : State) : (dropEntry k s).lif.txA = s.lif.txA :=
  by cases k <;> rfl
@[simp] theorem dropEntry_lif_fifo (k : EntryKind) (s : State) : (dropEntry k s).lif.fifo = s.lif.fifo :=
  by cases k <;> rfl
@[simp] theorem dropEntry_lif_txB (k : EntryKind) (s : State) : (dropEntry k s).lif.txB = s.lif.txB :=
  by cases k <;> rfl
@[simp] theorem dropEntry_lif_checkErrorsA (k : EntryKind) (s : State) :
    (dropEntry k s).lif.checkErrorsA = s.lif.checkErrorsA :=
  by cases k <;> rfl
@[simp] theorem dropEntry_lif_checkErrorsB (k : EntryKind) (s : State) :
    (dropEntry k s).lif.checkErrorsB = s.lif.checkErrorsB :=
  by cases k <;> rfl
@[simp] theorem dropEntry_lif_malformedA (k : EntryKind) (s : State) :
    (dropEntry k s).lif.malformedA = s.lif.malformedA :=
  by cases k <;> rfl
@[simp] theorem dropEntry_lif_malformedB (k : EntryKind) (s : State) :
    (dropEntry k s).lif.malformedB = s.lif.malformedB :=
  by cases k <;> rfl
@[simp] theorem dropEntry_lif_foreign (k : EntryKind) (s : State) : (dropEntry k s).lif.foreign = s.lif.foreign :=
  by cases k <;> rfl
@[simp] theorem dropEntry_lif_misdirected (k : EntryKind) (s : State) :
    (dropEntry k s).lif.misdirected = s.lif.misdirected :=
  by cases k <;> rfl
@[simp] theorem dropEntry_lif_passDrops (k : EntryKind) (s : State) : (dropEntry k s).lif.passDrops = s.lif.passDrops :=
  by cases k <;> rfl
@[simp] theorem dropEntry_lif_queue (k : EntryKind) (s : State) : (dropEntry k s).lif.queue = s.lif.queue :=
  by cases k <;> rfl
@[simp] theorem offer_pending (k : EntryKind) (c : Cell) (s : State) : (offer k c s).pending = s.pending := by
  unfold offer; split <;> simp
@[simp] theorem offer_agenda (k : EntryKind) (c : Cell) (s : State) : (offer k c s).agenda = s.agenda := by
  unfold offer; split <;> simp
@[simp] theorem offer_choices (k : EntryKind) (c : Cell) (s : State) : (offer k c s).choices = s.choices := by
  unfold offer; split <;> simp
@[simp] theorem offer_uptime (k : EntryKind) (c : Cell) (s : State) : (offer k c s).uptime = s.uptime := by
  unfold offer; split <;> simp
@[simp] theorem offer_running (k : EntryKind) (c : Cell) (s : State) : (offer k c s).running = s.running := by
  unfold offer; split <;> simp
@[simp] theorem offer_site (k : EntryKind) (c : Cell) (s : State) : (offer k c s).site = s.site := by
  unfold offer; split <;> simp
@[simp] theorem offer_checkOk (k : EntryKind) (c : Cell) (s : State) : (offer k c s).checkOk = s.checkOk := by
  unfold offer; split <;> simp
@[simp] theorem offer_siu (k : EntryKind) (c : Cell) (s : State) : (offer k c s).siu = s.siu := by
  unfold offer; split <;> simp
@[simp] theorem offer_sau (k : EntryKind) (c : Cell) (s : State) : (offer k c s).sau = s.sau := by
  unfold offer; split <;> simp
@[simp] theorem offer_pev (k : EntryKind) (c : Cell) (s : State) : (offer k c s).pev = s.pev := by
  unfold offer; split <;> simp
@[simp] theorem offer_pdx (k : EntryKind) (c : Cell) (s : State) : (offer k c s).pdx = s.pdx := by
  unfold offer; split <;> simp
@[simp] theorem offer_lda (k : EntryKind) (c : Cell) (s : State) : (offer k c s).lda = s.lda := by
  unfold offer; split <;> simp
@[simp] theorem offer_psq (k : EntryKind) (c : Cell) (s : State) : (offer k c s).psq = s.psq := by
  unfold offer; split <;> simp
@[simp] theorem offer_lse (k : EntryKind) (c : Cell) (s : State) : (offer k c s).lse = s.lse := by
  unfold offer; split <;> simp
@[simp] theorem offer_cfl (k : EntryKind) (c : Cell) (s : State) : (offer k c s).cfl = s.cfl := by
  unfold offer; split <;> simp
@[simp] theorem offer_rqa (k : EntryKind) (c : Cell) (s : State) : (offer k c s).rqa = s.rqa := by
  unfold offer; split <;> simp
@[simp] theorem offer_lif_headSending (k : EntryKind) (c : Cell) (s : State) :
    (offer k c s).lif.headSending = s.lif.headSending := by
  unfold offer; split <;> simp
@[simp] theorem offer_lif_txA (k : EntryKind) (c : Cell) (s : State) : (offer k c s).lif.txA = s.lif.txA := by
  unfold offer; split <;> simp
@[simp] theorem offer_lif_fifo (k : EntryKind) (c : Cell) (s : State) : (offer k c s).lif.fifo = s.lif.fifo := by
  unfold offer; split <;> simp
@[simp] theorem offer_lif_txB (k : EntryKind) (c : Cell) (s : State) : (offer k c s).lif.txB = s.lif.txB := by
  unfold offer; split <;> simp
@[simp] theorem offer_lif_checkErrorsA (k : EntryKind) (c : Cell) (s : State) :
    (offer k c s).lif.checkErrorsA = s.lif.checkErrorsA := by
  unfold offer; split <;> simp
@[simp] theorem offer_lif_checkErrorsB (k : EntryKind) (c : Cell) (s : State) :
    (offer k c s).lif.checkErrorsB = s.lif.checkErrorsB := by
  unfold offer; split <;> simp
@[simp] theorem offer_lif_malformedA (k : EntryKind) (c : Cell) (s : State) :
    (offer k c s).lif.malformedA = s.lif.malformedA := by
  unfold offer; split <;> simp
@[simp] theorem offer_lif_malformedB (k : EntryKind) (c : Cell) (s : State) :
    (offer k c s).lif.malformedB = s.lif.malformedB := by
  unfold offer; split <;> simp
@[simp] theorem offer_lif_foreign (k : EntryKind) (c : Cell) (s : State) :
    (offer k c s).lif.foreign = s.lif.foreign := by
  unfold offer; split <;> simp
@[simp] theorem offer_lif_misdirected (k : EntryKind) (c : Cell) (s : State) :
    (offer k c s).lif.misdirected = s.lif.misdirected := by
  unfold offer; split <;> simp
@[simp] theorem offer_lif_passDrops (k : EntryKind) (c : Cell) (s : State) :
    (offer k c s).lif.passDrops = s.lif.passDrops := by
  unfold offer; split <;> simp
@[simp] theorem emit_pending (e : Event) (i : Nat) (v : Int) (hi lo : Nat) (s : State) :
    (emit e i v hi lo s).pending = s.pending :=
  by simp [emit]
@[simp] theorem emit_agenda (e : Event) (i : Nat) (v : Int) (hi lo : Nat) (s : State) :
    (emit e i v hi lo s).agenda = s.agenda :=
  by simp [emit]
@[simp] theorem emit_choices (e : Event) (i : Nat) (v : Int) (hi lo : Nat) (s : State) :
    (emit e i v hi lo s).choices = s.choices :=
  by simp [emit]
@[simp] theorem emit_uptime (e : Event) (i : Nat) (v : Int) (hi lo : Nat) (s : State) :
    (emit e i v hi lo s).uptime = s.uptime :=
  by simp [emit]
@[simp] theorem emit_running (e : Event) (i : Nat) (v : Int) (hi lo : Nat) (s : State) :
    (emit e i v hi lo s).running = s.running :=
  by simp [emit]
@[simp] theorem emit_site (e : Event) (i : Nat) (v : Int) (hi lo : Nat) (s : State) :
    (emit e i v hi lo s).site = s.site :=
  by simp [emit]
@[simp] theorem emit_checkOk (e : Event) (i : Nat) (v : Int) (hi lo : Nat) (s : State) :
    (emit e i v hi lo s).checkOk = s.checkOk :=
  by simp [emit]
@[simp] theorem emit_siu (e : Event) (i : Nat) (v : Int) (hi lo : Nat) (s : State) : (emit e i v hi lo s).siu = s.siu :=
  by simp [emit]
@[simp] theorem emit_sau (e : Event) (i : Nat) (v : Int) (hi lo : Nat) (s : State) : (emit e i v hi lo s).sau = s.sau :=
  by simp [emit]
@[simp] theorem emit_pev (e : Event) (i : Nat) (v : Int) (hi lo : Nat) (s : State) : (emit e i v hi lo s).pev = s.pev :=
  by simp [emit]
@[simp] theorem emit_pdx (e : Event) (i : Nat) (v : Int) (hi lo : Nat) (s : State) : (emit e i v hi lo s).pdx = s.pdx :=
  by simp [emit]
@[simp] theorem emit_lda (e : Event) (i : Nat) (v : Int) (hi lo : Nat) (s : State) : (emit e i v hi lo s).lda = s.lda :=
  by simp [emit]
@[simp] theorem emit_psq (e : Event) (i : Nat) (v : Int) (hi lo : Nat) (s : State) : (emit e i v hi lo s).psq = s.psq :=
  by simp [emit]
@[simp] theorem emit_lse (e : Event) (i : Nat) (v : Int) (hi lo : Nat) (s : State) : (emit e i v hi lo s).lse = s.lse :=
  by simp [emit]
@[simp] theorem emit_cfl (e : Event) (i : Nat) (v : Int) (hi lo : Nat) (s : State) : (emit e i v hi lo s).cfl = s.cfl :=
  by simp [emit]
@[simp] theorem emit_rqa (e : Event) (i : Nat) (v : Int) (hi lo : Nat) (s : State) : (emit e i v hi lo s).rqa = s.rqa :=
  by simp [emit]
@[simp] theorem emit_lif_headSending (e : Event) (i : Nat) (v : Int) (hi lo : Nat) (s : State) :
    (emit e i v hi lo s).lif.headSending = s.lif.headSending :=
  by simp [emit]
@[simp] theorem emit_lif_txA (e : Event) (i : Nat) (v : Int) (hi lo : Nat) (s : State) :
    (emit e i v hi lo s).lif.txA = s.lif.txA :=
  by simp [emit]
@[simp] theorem emit_lif_fifo (e : Event) (i : Nat) (v : Int) (hi lo : Nat) (s : State) :
    (emit e i v hi lo s).lif.fifo = s.lif.fifo :=
  by simp [emit]
@[simp] theorem emit_lif_txB (e : Event) (i : Nat) (v : Int) (hi lo : Nat) (s : State) :
    (emit e i v hi lo s).lif.txB = s.lif.txB :=
  by simp [emit]
@[simp] theorem emit_lif_checkErrorsA (e : Event) (i : Nat) (v : Int) (hi lo : Nat) (s : State) :
    (emit e i v hi lo s).lif.checkErrorsA = s.lif.checkErrorsA :=
  by simp [emit]
@[simp] theorem emit_lif_checkErrorsB (e : Event) (i : Nat) (v : Int) (hi lo : Nat) (s : State) :
    (emit e i v hi lo s).lif.checkErrorsB = s.lif.checkErrorsB :=
  by simp [emit]
@[simp] theorem emit_lif_malformedA (e : Event) (i : Nat) (v : Int) (hi lo : Nat) (s : State) :
    (emit e i v hi lo s).lif.malformedA = s.lif.malformedA :=
  by simp [emit]
@[simp] theorem emit_lif_malformedB (e : Event) (i : Nat) (v : Int) (hi lo : Nat) (s : State) :
    (emit e i v hi lo s).lif.malformedB = s.lif.malformedB :=
  by simp [emit]
@[simp] theorem emit_lif_foreign (e : Event) (i : Nat) (v : Int) (hi lo : Nat) (s : State) :
    (emit e i v hi lo s).lif.foreign = s.lif.foreign :=
  by simp [emit]
@[simp] theorem emit_lif_misdirected (e : Event) (i : Nat) (v : Int) (hi lo : Nat) (s : State) :
    (emit e i v hi lo s).lif.misdirected = s.lif.misdirected :=
  by simp [emit]
@[simp] theorem emit_lif_passDrops (e : Event) (i : Nat) (v : Int) (hi lo : Nat) (s : State) :
    (emit e i v hi lo s).lif.passDrops = s.lif.passDrops :=
  by simp [emit]
@[simp] theorem offerPassThrough_pending (c : Cell) (s : State) : (offerPassThrough c s).pending = s.pending := by
  unfold offerPassThrough; split <;> rfl
@[simp] theorem offerPassThrough_agenda (c : Cell) (s : State) : (offerPassThrough c s).agenda = s.agenda := by
  unfold offerPassThrough; split <;> rfl
@[simp] theorem offerPassThrough_choices (c : Cell) (s : State) : (offerPassThrough c s).choices = s.choices := by
  unfold offerPassThrough; split <;> rfl
@[simp] theorem offerPassThrough_uptime (c : Cell) (s : State) : (offerPassThrough c s).uptime = s.uptime := by
  unfold offerPassThrough; split <;> rfl
@[simp] theorem offerPassThrough_running (c : Cell) (s : State) : (offerPassThrough c s).running = s.running := by
  unfold offerPassThrough; split <;> rfl
@[simp] theorem offerPassThrough_site (c : Cell) (s : State) : (offerPassThrough c s).site = s.site := by
  unfold offerPassThrough; split <;> rfl
@[simp] theorem offerPassThrough_checkOk (c : Cell) (s : State) : (offerPassThrough c s).checkOk = s.checkOk := by
  unfold offerPassThrough; split <;> rfl
@[simp] theorem offerPassThrough_siu (c : Cell) (s : State) : (offerPassThrough c s).siu = s.siu := by
  unfold offerPassThrough; split <;> rfl
@[simp] theorem offerPassThrough_sau (c : Cell) (s : State) : (offerPassThrough c s).sau = s.sau := by
  unfold offerPassThrough; split <;> rfl
@[simp] theorem offerPassThrough_pev (c : Cell) (s : State) : (offerPassThrough c s).pev = s.pev := by
  unfold offerPassThrough; split <;> rfl
@[simp] theorem offerPassThrough_pdx (c : Cell) (s : State) : (offerPassThrough c s).pdx = s.pdx := by
  unfold offerPassThrough; split <;> rfl
@[simp] theorem offerPassThrough_lda (c : Cell) (s : State) : (offerPassThrough c s).lda = s.lda := by
  unfold offerPassThrough; split <;> rfl
@[simp] theorem offerPassThrough_psq (c : Cell) (s : State) : (offerPassThrough c s).psq = s.psq := by
  unfold offerPassThrough; split <;> rfl
@[simp] theorem offerPassThrough_lse (c : Cell) (s : State) : (offerPassThrough c s).lse = s.lse := by
  unfold offerPassThrough; split <;> rfl
@[simp] theorem offerPassThrough_cfl (c : Cell) (s : State) : (offerPassThrough c s).cfl = s.cfl := by
  unfold offerPassThrough; split <;> rfl
@[simp] theorem offerPassThrough_rqa (c : Cell) (s : State) : (offerPassThrough c s).rqa = s.rqa := by
  unfold offerPassThrough; split <;> rfl

/-! ## The output image -/

@[simp] theorem writeSlot_pending (k : Fin 20) (v : Int) (src : SlotSource) (s : State) :
    (writeSlot k v src s).pending = s.pending := by
  unfold writeSlot; split <;> rfl
@[simp] theorem writeSlot_agenda (k : Fin 20) (v : Int) (src : SlotSource) (s : State) :
    (writeSlot k v src s).agenda = s.agenda := by
  unfold writeSlot; split <;> rfl
@[simp] theorem writeSlot_choices (k : Fin 20) (v : Int) (src : SlotSource) (s : State) :
    (writeSlot k v src s).choices = s.choices := by
  unfold writeSlot; split <;> rfl
@[simp] theorem writeSlot_uptime (k : Fin 20) (v : Int) (src : SlotSource) (s : State) :
    (writeSlot k v src s).uptime = s.uptime := by
  unfold writeSlot; split <;> rfl
@[simp] theorem writeSlot_running (k : Fin 20) (v : Int) (src : SlotSource) (s : State) :
    (writeSlot k v src s).running = s.running := by
  unfold writeSlot; split <;> rfl
@[simp] theorem writeSlot_site (k : Fin 20) (v : Int) (src : SlotSource) (s : State) :
    (writeSlot k v src s).site = s.site := by
  unfold writeSlot; split <;> rfl
@[simp] theorem writeSlot_checkOk (k : Fin 20) (v : Int) (src : SlotSource) (s : State) :
    (writeSlot k v src s).checkOk = s.checkOk := by
  unfold writeSlot; split <;> rfl
@[simp] theorem writeSlot_lif (k : Fin 20) (v : Int) (src : SlotSource) (s : State) :
    (writeSlot k v src s).lif = s.lif := by
  unfold writeSlot; split <;> rfl
@[simp] theorem writeSlot_siu (k : Fin 20) (v : Int) (src : SlotSource) (s : State) :
    (writeSlot k v src s).siu = s.siu := by
  unfold writeSlot; split <;> rfl
@[simp] theorem writeSlot_sau (k : Fin 20) (v : Int) (src : SlotSource) (s : State) :
    (writeSlot k v src s).sau = s.sau := by
  unfold writeSlot; split <;> rfl
@[simp] theorem writeSlot_pev (k : Fin 20) (v : Int) (src : SlotSource) (s : State) :
    (writeSlot k v src s).pev = s.pev := by
  unfold writeSlot; split <;> rfl
@[simp] theorem writeSlot_pdx (k : Fin 20) (v : Int) (src : SlotSource) (s : State) :
    (writeSlot k v src s).pdx = s.pdx := by
  unfold writeSlot; split <;> rfl
@[simp] theorem writeSlot_lda (k : Fin 20) (v : Int) (src : SlotSource) (s : State) :
    (writeSlot k v src s).lda = s.lda := by
  unfold writeSlot; split <;> rfl
@[simp] theorem writeSlot_psq (k : Fin 20) (v : Int) (src : SlotSource) (s : State) :
    (writeSlot k v src s).psq = s.psq := by
  unfold writeSlot; split <;> rfl
@[simp] theorem writeSlot_lse (k : Fin 20) (v : Int) (src : SlotSource) (s : State) :
    (writeSlot k v src s).lse = s.lse := by
  unfold writeSlot; split <;> rfl
@[simp] theorem writeSlot_rqa (k : Fin 20) (v : Int) (src : SlotSource) (s : State) :
    (writeSlot k v src s).rqa = s.rqa := by
  unfold writeSlot; split <;> rfl
@[simp] theorem writeSlot_cfl_gates (k : Fin 20) (v : Int) (src : SlotSource) (s : State) :
    (writeSlot k v src s).cfl.gates = s.cfl.gates := by
  unfold writeSlot; split <;> rfl
@[simp] theorem writeSlot_cfl_authority (k : Fin 20) (v : Int) (src : SlotSource) (s : State) :
    (writeSlot k v src s).cfl.authority = s.cfl.authority := by
  unfold writeSlot; split <;> rfl
@[simp] theorem writeSlot_cfl_rules (k : Fin 20) (v : Int) (src : SlotSource) (s : State) :
    (writeSlot k v src s).cfl.rules = s.cfl.rules := by
  unfold writeSlot; split <;> rfl
@[simp] theorem writeSlot_cfl_supervision (k : Fin 20) (v : Int) (src : SlotSource) (s : State) :
    (writeSlot k v src s).cfl.supervision = s.cfl.supervision := by
  unfold writeSlot; split <;> rfl
@[simp] theorem writeSlot_cfl_timer (k : Fin 20) (v : Int) (src : SlotSource) (s : State) :
    (writeSlot k v src s).cfl.timer = s.cfl.timer := by
  unfold writeSlot; split <;> rfl
@[simp] theorem writeSlot_cfl_firstPresence (k : Fin 20) (v : Int) (src : SlotSource) (s : State) :
    (writeSlot k v src s).cfl.firstPresence = s.cfl.firstPresence := by
  unfold writeSlot; split <;> rfl
@[simp] theorem writeSlot_cfl_posture (k : Fin 20) (v : Int) (src : SlotSource) (s : State) :
    (writeSlot k v src s).cfl.posture = s.cfl.posture := by
  unfold writeSlot; split <;> rfl
@[simp] theorem writeSlot_cfl_tier (k : Fin 20) (v : Int) (src : SlotSource) (s : State) :
    (writeSlot k v src s).cfl.tier = s.cfl.tier := by
  unfold writeSlot; split <;> rfl
@[simp] theorem engineWrite_pending (k : Fin 20) (v : Int) (s : State) : (engineWrite k v s).pending = s.pending := by
  unfold engineWrite; split <;> simp
@[simp] theorem engineWrite_agenda (k : Fin 20) (v : Int) (s : State) : (engineWrite k v s).agenda = s.agenda := by
  unfold engineWrite; split <;> simp
@[simp] theorem engineWrite_choices (k : Fin 20) (v : Int) (s : State) : (engineWrite k v s).choices = s.choices := by
  unfold engineWrite; split <;> simp
@[simp] theorem engineWrite_uptime (k : Fin 20) (v : Int) (s : State) : (engineWrite k v s).uptime = s.uptime := by
  unfold engineWrite; split <;> simp
@[simp] theorem engineWrite_running (k : Fin 20) (v : Int) (s : State) : (engineWrite k v s).running = s.running := by
  unfold engineWrite; split <;> simp
@[simp] theorem engineWrite_site (k : Fin 20) (v : Int) (s : State) : (engineWrite k v s).site = s.site := by
  unfold engineWrite; split <;> simp
@[simp] theorem engineWrite_checkOk (k : Fin 20) (v : Int) (s : State) : (engineWrite k v s).checkOk = s.checkOk := by
  unfold engineWrite; split <;> simp
@[simp] theorem engineWrite_lif (k : Fin 20) (v : Int) (s : State) : (engineWrite k v s).lif = s.lif := by
  unfold engineWrite; split <;> simp
@[simp] theorem engineWrite_siu (k : Fin 20) (v : Int) (s : State) : (engineWrite k v s).siu = s.siu := by
  unfold engineWrite; split <;> simp
@[simp] theorem engineWrite_sau (k : Fin 20) (v : Int) (s : State) : (engineWrite k v s).sau = s.sau := by
  unfold engineWrite; split <;> simp
@[simp] theorem engineWrite_pev (k : Fin 20) (v : Int) (s : State) : (engineWrite k v s).pev = s.pev := by
  unfold engineWrite; split <;> simp
@[simp] theorem engineWrite_pdx (k : Fin 20) (v : Int) (s : State) : (engineWrite k v s).pdx = s.pdx := by
  unfold engineWrite; split <;> simp
@[simp] theorem engineWrite_lda (k : Fin 20) (v : Int) (s : State) : (engineWrite k v s).lda = s.lda := by
  unfold engineWrite; split <;> simp
@[simp] theorem engineWrite_psq (k : Fin 20) (v : Int) (s : State) : (engineWrite k v s).psq = s.psq := by
  unfold engineWrite; split <;> simp
@[simp] theorem engineWrite_lse (k : Fin 20) (v : Int) (s : State) : (engineWrite k v s).lse = s.lse := by
  unfold engineWrite; split <;> simp
@[simp] theorem engineWrite_rqa (k : Fin 20) (v : Int) (s : State) : (engineWrite k v s).rqa = s.rqa := by
  unfold engineWrite; split <;> simp
@[simp] theorem engineWrite_cfl_gates (k : Fin 20) (v : Int) (s : State) :
    (engineWrite k v s).cfl.gates = s.cfl.gates := by
  unfold engineWrite; split <;> simp
@[simp] theorem engineWrite_cfl_authority (k : Fin 20) (v : Int) (s : State) :
    (engineWrite k v s).cfl.authority = s.cfl.authority := by
  unfold engineWrite; split <;> simp
@[simp] theorem engineWrite_cfl_rules (k : Fin 20) (v : Int) (s : State) :
    (engineWrite k v s).cfl.rules = s.cfl.rules := by
  unfold engineWrite; split <;> simp
@[simp] theorem engineWrite_cfl_supervision (k : Fin 20) (v : Int) (s : State) :
    (engineWrite k v s).cfl.supervision = s.cfl.supervision := by
  unfold engineWrite; split <;> simp
@[simp] theorem engineWrite_cfl_timer (k : Fin 20) (v : Int) (s : State) :
    (engineWrite k v s).cfl.timer = s.cfl.timer := by
  unfold engineWrite; split <;> simp
@[simp] theorem engineWrite_cfl_firstPresence (k : Fin 20) (v : Int) (s : State) :
    (engineWrite k v s).cfl.firstPresence = s.cfl.firstPresence := by
  unfold engineWrite; split <;> simp
@[simp] theorem engineWrite_cfl_posture (k : Fin 20) (v : Int) (s : State) :
    (engineWrite k v s).cfl.posture = s.cfl.posture := by
  unfold engineWrite; split <;> simp
@[simp] theorem engineWrite_cfl_tier (k : Fin 20) (v : Int) (s : State) :
    (engineWrite k v s).cfl.tier = s.cfl.tier := by
  unfold engineWrite; split <;> simp
@[simp] theorem engineKeep_pending (k : Fin 20) (v : Int) (s : State) : (engineKeep k v s).pending = s.pending := by
  unfold engineKeep; split <;> simp
@[simp] theorem engineKeep_agenda (k : Fin 20) (v : Int) (s : State) : (engineKeep k v s).agenda = s.agenda := by
  unfold engineKeep; split <;> simp
@[simp] theorem engineKeep_choices (k : Fin 20) (v : Int) (s : State) : (engineKeep k v s).choices = s.choices := by
  unfold engineKeep; split <;> simp
@[simp] theorem engineKeep_uptime (k : Fin 20) (v : Int) (s : State) : (engineKeep k v s).uptime = s.uptime := by
  unfold engineKeep; split <;> simp
@[simp] theorem engineKeep_running (k : Fin 20) (v : Int) (s : State) : (engineKeep k v s).running = s.running := by
  unfold engineKeep; split <;> simp
@[simp] theorem engineKeep_site (k : Fin 20) (v : Int) (s : State) : (engineKeep k v s).site = s.site := by
  unfold engineKeep; split <;> simp
@[simp] theorem engineKeep_checkOk (k : Fin 20) (v : Int) (s : State) : (engineKeep k v s).checkOk = s.checkOk := by
  unfold engineKeep; split <;> simp
@[simp] theorem engineKeep_lif (k : Fin 20) (v : Int) (s : State) : (engineKeep k v s).lif = s.lif := by
  unfold engineKeep; split <;> simp
@[simp] theorem engineKeep_siu (k : Fin 20) (v : Int) (s : State) : (engineKeep k v s).siu = s.siu := by
  unfold engineKeep; split <;> simp
@[simp] theorem engineKeep_sau (k : Fin 20) (v : Int) (s : State) : (engineKeep k v s).sau = s.sau := by
  unfold engineKeep; split <;> simp
@[simp] theorem engineKeep_pev (k : Fin 20) (v : Int) (s : State) : (engineKeep k v s).pev = s.pev := by
  unfold engineKeep; split <;> simp
@[simp] theorem engineKeep_pdx (k : Fin 20) (v : Int) (s : State) : (engineKeep k v s).pdx = s.pdx := by
  unfold engineKeep; split <;> simp
@[simp] theorem engineKeep_lda (k : Fin 20) (v : Int) (s : State) : (engineKeep k v s).lda = s.lda := by
  unfold engineKeep; split <;> simp
@[simp] theorem engineKeep_psq (k : Fin 20) (v : Int) (s : State) : (engineKeep k v s).psq = s.psq := by
  unfold engineKeep; split <;> simp
@[simp] theorem engineKeep_lse (k : Fin 20) (v : Int) (s : State) : (engineKeep k v s).lse = s.lse := by
  unfold engineKeep; split <;> simp
@[simp] theorem engineKeep_rqa (k : Fin 20) (v : Int) (s : State) : (engineKeep k v s).rqa = s.rqa := by
  unfold engineKeep; split <;> simp
@[simp] theorem engineKeep_cfl_gates (k : Fin 20) (v : Int) (s : State) :
    (engineKeep k v s).cfl.gates = s.cfl.gates := by
  unfold engineKeep; split <;> simp
@[simp] theorem engineKeep_cfl_authority (k : Fin 20) (v : Int) (s : State) :
    (engineKeep k v s).cfl.authority = s.cfl.authority := by
  unfold engineKeep; split <;> simp
@[simp] theorem engineKeep_cfl_rules (k : Fin 20) (v : Int) (s : State) :
    (engineKeep k v s).cfl.rules = s.cfl.rules := by
  unfold engineKeep; split <;> simp
@[simp] theorem engineKeep_cfl_supervision (k : Fin 20) (v : Int) (s : State) :
    (engineKeep k v s).cfl.supervision = s.cfl.supervision := by
  unfold engineKeep; split <;> simp
@[simp] theorem engineKeep_cfl_timer (k : Fin 20) (v : Int) (s : State) :
    (engineKeep k v s).cfl.timer = s.cfl.timer := by
  unfold engineKeep; split <;> simp
@[simp] theorem engineKeep_cfl_firstPresence (k : Fin 20) (v : Int) (s : State) :
    (engineKeep k v s).cfl.firstPresence = s.cfl.firstPresence := by
  unfold engineKeep; split <;> simp
@[simp] theorem engineKeep_cfl_posture (k : Fin 20) (v : Int) (s : State) :
    (engineKeep k v s).cfl.posture = s.cfl.posture := by
  unfold engineKeep; split <;> simp
@[simp] theorem engineKeep_cfl_tier (k : Fin 20) (v : Int) (s : State) : (engineKeep k v s).cfl.tier = s.cfl.tier := by
  unfold engineKeep; split <;> simp

/-! ## Tables and nodes -/

@[simp] theorem writeThrough_pending (t : Table) (s : State) : (writeThrough t s).pending = s.pending := rfl
@[simp] theorem writeThrough_agenda (t : Table) (s : State) : (writeThrough t s).agenda = s.agenda := rfl
@[simp] theorem writeThrough_choices (t : Table) (s : State) : (writeThrough t s).choices = s.choices := rfl
@[simp] theorem writeThrough_uptime (t : Table) (s : State) : (writeThrough t s).uptime = s.uptime := rfl
@[simp] theorem writeThrough_running (t : Table) (s : State) : (writeThrough t s).running = s.running := rfl
@[simp] theorem writeThrough_site (t : Table) (s : State) : (writeThrough t s).site = s.site := rfl
@[simp] theorem writeThrough_lif (t : Table) (s : State) : (writeThrough t s).lif = s.lif := rfl
@[simp] theorem writeThrough_siu (t : Table) (s : State) : (writeThrough t s).siu = s.siu := rfl
@[simp] theorem writeThrough_sau (t : Table) (s : State) : (writeThrough t s).sau = s.sau := rfl
@[simp] theorem writeThrough_pev (t : Table) (s : State) : (writeThrough t s).pev = s.pev := rfl
@[simp] theorem writeThrough_pdx (t : Table) (s : State) : (writeThrough t s).pdx = s.pdx := rfl
@[simp] theorem writeThrough_lda (t : Table) (s : State) : (writeThrough t s).lda = s.lda := rfl
@[simp] theorem writeThrough_psq (t : Table) (s : State) : (writeThrough t s).psq = s.psq := rfl
@[simp] theorem writeThrough_lse (t : Table) (s : State) : (writeThrough t s).lse = s.lse := rfl
@[simp] theorem writeThrough_cfl (t : Table) (s : State) : (writeThrough t s).cfl = s.cfl := rfl
@[simp] theorem writeThrough_rqa (t : Table) (s : State) : (writeThrough t s).rqa = s.rqa := rfl
@[simp] theorem updNode_pending (a : Nat) (f : Node → Node) (s : State) : (updNode a f s).pending = s.pending := rfl
@[simp] theorem updNode_agenda (a : Nat) (f : Node → Node) (s : State) : (updNode a f s).agenda = s.agenda := rfl
@[simp] theorem updNode_choices (a : Nat) (f : Node → Node) (s : State) : (updNode a f s).choices = s.choices := rfl
@[simp] theorem updNode_uptime (a : Nat) (f : Node → Node) (s : State) : (updNode a f s).uptime = s.uptime := rfl
@[simp] theorem updNode_running (a : Nat) (f : Node → Node) (s : State) : (updNode a f s).running = s.running := rfl
@[simp] theorem updNode_site (a : Nat) (f : Node → Node) (s : State) : (updNode a f s).site = s.site := rfl
@[simp] theorem updNode_checkOk (a : Nat) (f : Node → Node) (s : State) : (updNode a f s).checkOk = s.checkOk := rfl
@[simp] theorem updNode_lif (a : Nat) (f : Node → Node) (s : State) : (updNode a f s).lif = s.lif := rfl
@[simp] theorem updNode_sau (a : Nat) (f : Node → Node) (s : State) : (updNode a f s).sau = s.sau := rfl
@[simp] theorem updNode_pev (a : Nat) (f : Node → Node) (s : State) : (updNode a f s).pev = s.pev := rfl
@[simp] theorem updNode_pdx (a : Nat) (f : Node → Node) (s : State) : (updNode a f s).pdx = s.pdx := rfl
@[simp] theorem updNode_lda (a : Nat) (f : Node → Node) (s : State) : (updNode a f s).lda = s.lda := rfl
@[simp] theorem updNode_psq (a : Nat) (f : Node → Node) (s : State) : (updNode a f s).psq = s.psq := rfl
@[simp] theorem updNode_lse (a : Nat) (f : Node → Node) (s : State) : (updNode a f s).lse = s.lse := rfl
@[simp] theorem updNode_cfl (a : Nat) (f : Node → Node) (s : State) : (updNode a f s).cfl = s.cfl := rfl
@[simp] theorem updNode_rqa (a : Nat) (f : Node → Node) (s : State) : (updNode a f s).rqa = s.rqa := rfl
@[simp] theorem clearMark_pending (a : Assignment) (s : State) : (clearMark a s).pending = s.pending := rfl
@[simp] theorem clearMark_agenda (a : Assignment) (s : State) : (clearMark a s).agenda = s.agenda := rfl
@[simp] theorem clearMark_choices (a : Assignment) (s : State) : (clearMark a s).choices = s.choices := rfl
@[simp] theorem clearMark_uptime (a : Assignment) (s : State) : (clearMark a s).uptime = s.uptime := rfl
@[simp] theorem clearMark_running (a : Assignment) (s : State) : (clearMark a s).running = s.running := rfl
@[simp] theorem clearMark_site (a : Assignment) (s : State) : (clearMark a s).site = s.site := rfl
@[simp] theorem clearMark_checkOk (a : Assignment) (s : State) : (clearMark a s).checkOk = s.checkOk := rfl
@[simp] theorem clearMark_lif (a : Assignment) (s : State) : (clearMark a s).lif = s.lif := rfl
@[simp] theorem clearMark_sau (a : Assignment) (s : State) : (clearMark a s).sau = s.sau := rfl
@[simp] theorem clearMark_pev (a : Assignment) (s : State) : (clearMark a s).pev = s.pev := rfl
@[simp] theorem clearMark_pdx (a : Assignment) (s : State) : (clearMark a s).pdx = s.pdx := rfl
@[simp] theorem clearMark_lda (a : Assignment) (s : State) : (clearMark a s).lda = s.lda := rfl
@[simp] theorem clearMark_psq (a : Assignment) (s : State) : (clearMark a s).psq = s.psq := rfl
@[simp] theorem clearMark_lse (a : Assignment) (s : State) : (clearMark a s).lse = s.lse := rfl
@[simp] theorem clearMark_cfl (a : Assignment) (s : State) : (clearMark a s).cfl = s.cfl := rfl
@[simp] theorem clearMark_rqa (a : Assignment) (s : State) : (clearMark a s).rqa = s.rqa := rfl
@[simp] theorem deriveAuthorities_pending (s : State) : (deriveAuthorities s).pending = s.pending :=
  by simp only [deriveAuthorities]
@[simp] theorem deriveAuthorities_agenda (s : State) : (deriveAuthorities s).agenda = s.agenda :=
  by simp only [deriveAuthorities]
@[simp] theorem deriveAuthorities_choices (s : State) : (deriveAuthorities s).choices = s.choices :=
  by simp only [deriveAuthorities]
@[simp] theorem deriveAuthorities_uptime (s : State) : (deriveAuthorities s).uptime = s.uptime :=
  by simp only [deriveAuthorities]
@[simp] theorem deriveAuthorities_running (s : State) : (deriveAuthorities s).running = s.running :=
  by simp only [deriveAuthorities]
@[simp] theorem deriveAuthorities_site (s : State) : (deriveAuthorities s).site = s.site :=
  by simp only [deriveAuthorities]
@[simp] theorem deriveAuthorities_checkOk (s : State) : (deriveAuthorities s).checkOk = s.checkOk :=
  by simp only [deriveAuthorities]
@[simp] theorem deriveAuthorities_lif (s : State) : (deriveAuthorities s).lif = s.lif :=
  by simp only [deriveAuthorities]
@[simp] theorem deriveAuthorities_siu (s : State) : (deriveAuthorities s).siu = s.siu :=
  by simp only [deriveAuthorities]
@[simp] theorem deriveAuthorities_sau (s : State) : (deriveAuthorities s).sau = s.sau :=
  by simp only [deriveAuthorities]
@[simp] theorem deriveAuthorities_pev (s : State) : (deriveAuthorities s).pev = s.pev :=
  by simp only [deriveAuthorities]
@[simp] theorem deriveAuthorities_pdx (s : State) : (deriveAuthorities s).pdx = s.pdx :=
  by simp only [deriveAuthorities]
@[simp] theorem deriveAuthorities_lda (s : State) : (deriveAuthorities s).lda = s.lda :=
  by simp only [deriveAuthorities]
@[simp] theorem deriveAuthorities_psq (s : State) : (deriveAuthorities s).psq = s.psq :=
  by simp only [deriveAuthorities]
@[simp] theorem deriveAuthorities_lse (s : State) : (deriveAuthorities s).lse = s.lse :=
  by simp only [deriveAuthorities]
@[simp] theorem deriveAuthorities_rqa (s : State) : (deriveAuthorities s).rqa = s.rqa :=
  by simp only [deriveAuthorities]
@[simp] theorem deriveAuthorities_cfl_gates (s : State) : (deriveAuthorities s).cfl.gates = s.cfl.gates :=
  by simp only [deriveAuthorities]
@[simp] theorem deriveAuthorities_cfl_authority (s : State) : (deriveAuthorities s).cfl.authority = s.cfl.authority :=
  by simp only [deriveAuthorities]
@[simp] theorem deriveAuthorities_cfl_rules (s : State) : (deriveAuthorities s).cfl.rules = s.cfl.rules :=
  by simp only [deriveAuthorities]
@[simp] theorem deriveAuthorities_cfl_supervision (s : State) :
    (deriveAuthorities s).cfl.supervision = s.cfl.supervision :=
  by simp only [deriveAuthorities]
@[simp] theorem deriveAuthorities_cfl_timer (s : State) : (deriveAuthorities s).cfl.timer = s.cfl.timer :=
  by simp only [deriveAuthorities]
@[simp] theorem deriveAuthorities_cfl_firstPresence (s : State) :
    (deriveAuthorities s).cfl.firstPresence = s.cfl.firstPresence :=
  by simp only [deriveAuthorities]
@[simp] theorem deriveAuthorities_cfl_posture (s : State) : (deriveAuthorities s).cfl.posture = s.cfl.posture :=
  by simp only [deriveAuthorities]
@[simp] theorem deriveAuthorities_cfl_tier (s : State) : (deriveAuthorities s).cfl.tier = s.cfl.tier :=
  by simp only [deriveAuthorities]
@[simp] theorem recordNodes_pending (s : State) : (recordNodes s).pending = s.pending := by simp only [recordNodes]
@[simp] theorem recordNodes_agenda (s : State) : (recordNodes s).agenda = s.agenda := by simp only [recordNodes]
@[simp] theorem recordNodes_choices (s : State) : (recordNodes s).choices = s.choices := by simp only [recordNodes]
@[simp] theorem recordNodes_uptime (s : State) : (recordNodes s).uptime = s.uptime := by simp only [recordNodes]
@[simp] theorem recordNodes_running (s : State) : (recordNodes s).running = s.running := by simp only [recordNodes]
@[simp] theorem recordNodes_site (s : State) : (recordNodes s).site = s.site := by simp only [recordNodes]
@[simp] theorem recordNodes_checkOk (s : State) : (recordNodes s).checkOk = s.checkOk := by simp only [recordNodes]
@[simp] theorem recordNodes_lif (s : State) : (recordNodes s).lif = s.lif := by simp only [recordNodes]
@[simp] theorem recordNodes_siu (s : State) : (recordNodes s).siu = s.siu := by simp only [recordNodes]
@[simp] theorem recordNodes_sau (s : State) : (recordNodes s).sau = s.sau := by simp only [recordNodes]
@[simp] theorem recordNodes_pev (s : State) : (recordNodes s).pev = s.pev := by simp only [recordNodes]
@[simp] theorem recordNodes_pdx (s : State) : (recordNodes s).pdx = s.pdx := by simp only [recordNodes]
@[simp] theorem recordNodes_lda (s : State) : (recordNodes s).lda = s.lda := by simp only [recordNodes]
@[simp] theorem recordNodes_psq (s : State) : (recordNodes s).psq = s.psq := by simp only [recordNodes]
@[simp] theorem recordNodes_lse (s : State) : (recordNodes s).lse = s.lse := by simp only [recordNodes]
@[simp] theorem recordNodes_rqa (s : State) : (recordNodes s).rqa = s.rqa := by simp only [recordNodes]
@[simp] theorem recordNodes_cfl_gates (s : State) : (recordNodes s).cfl.gates = s.cfl.gates :=
  by simp only [recordNodes]
@[simp] theorem recordNodes_cfl_authority (s : State) : (recordNodes s).cfl.authority = s.cfl.authority :=
  by simp only [recordNodes]
@[simp] theorem recordNodes_cfl_rules (s : State) : (recordNodes s).cfl.rules = s.cfl.rules :=
  by simp only [recordNodes]
@[simp] theorem recordNodes_cfl_supervision (s : State) : (recordNodes s).cfl.supervision = s.cfl.supervision :=
  by simp only [recordNodes]
@[simp] theorem recordNodes_cfl_timer (s : State) : (recordNodes s).cfl.timer = s.cfl.timer :=
  by simp only [recordNodes]
@[simp] theorem recordNodes_cfl_firstPresence (s : State) : (recordNodes s).cfl.firstPresence = s.cfl.firstPresence :=
  by simp only [recordNodes]
@[simp] theorem recordNodes_cfl_posture (s : State) : (recordNodes s).cfl.posture = s.cfl.posture :=
  by simp only [recordNodes]
@[simp] theorem recordNodes_cfl_tier (s : State) : (recordNodes s).cfl.tier = s.cfl.tier := by simp only [recordNodes]

/-! ## The load account -/

@[simp] theorem recomputeCAvail_pending (s : State) : (recomputeCAvail s).pending = s.pending := rfl
@[simp] theorem recomputeCAvail_agenda (s : State) : (recomputeCAvail s).agenda = s.agenda := rfl
@[simp] theorem recomputeCAvail_choices (s : State) : (recomputeCAvail s).choices = s.choices := rfl
@[simp] theorem recomputeCAvail_uptime (s : State) : (recomputeCAvail s).uptime = s.uptime := rfl
@[simp] theorem recomputeCAvail_running (s : State) : (recomputeCAvail s).running = s.running := rfl
@[simp] theorem recomputeCAvail_site (s : State) : (recomputeCAvail s).site = s.site := rfl
@[simp] theorem recomputeCAvail_checkOk (s : State) : (recomputeCAvail s).checkOk = s.checkOk := rfl
@[simp] theorem recomputeCAvail_lif (s : State) : (recomputeCAvail s).lif = s.lif := rfl
@[simp] theorem recomputeCAvail_siu (s : State) : (recomputeCAvail s).siu = s.siu := rfl
@[simp] theorem recomputeCAvail_pev (s : State) : (recomputeCAvail s).pev = s.pev := rfl
@[simp] theorem recomputeCAvail_pdx (s : State) : (recomputeCAvail s).pdx = s.pdx := rfl
@[simp] theorem recomputeCAvail_psq (s : State) : (recomputeCAvail s).psq = s.psq := rfl
@[simp] theorem recomputeCAvail_lse (s : State) : (recomputeCAvail s).lse = s.lse := rfl
@[simp] theorem recomputeCAvail_cfl (s : State) : (recomputeCAvail s).cfl = s.cfl := rfl
@[simp] theorem recomputeCAvail_rqa (s : State) : (recomputeCAvail s).rqa = s.rqa := rfl
@[simp] theorem recomputeCAvail_lda_mains (s : State) : (recomputeCAvail s).lda.mains = s.lda.mains := rfl
@[simp] theorem recomputeCAvail_lda_generator (s : State) : (recomputeCAvail s).lda.generator = s.lda.generator := rfl
@[simp] theorem recomputeCAvail_lda_battery (s : State) : (recomputeCAvail s).lda.battery = s.lda.battery := rfl
@[simp] theorem recomputeCAvail_lda_fresh (s : State) : (recomputeCAvail s).lda.fresh = s.lda.fresh := rfl
@[simp] theorem recomputeCAvail_lda_cls (s : State) : (recomputeCAvail s).lda.cls = s.lda.cls := rfl
@[simp] theorem recomputeCAvail_lda_low (s : State) : (recomputeCAvail s).lda.low = s.lda.low := rfl
@[simp] theorem recomputeCAvail_lda_tier (s : State) : (recomputeCAvail s).lda.tier = s.lda.tier := rfl
@[simp] theorem recomputeCAvail_lda_limits (s : State) : (recomputeCAvail s).lda.limits = s.lda.limits := rfl
@[simp] theorem recomputeCAvail_lda_claims (s : State) : (recomputeCAvail s).lda.claims = s.lda.claims := rfl
@[simp] theorem recomputeCAvail_sau_table (s : State) : (recomputeCAvail s).sau.table = s.sau.table := rfl
@[simp] theorem recomputeCAvail_sau_staging (s : State) : (recomputeCAvail s).sau.staging = s.sau.staging := rfl
@[simp] theorem recomputeCAvail_sau_est (s : State) : (recomputeCAvail s).sau.est = s.sau.est := rfl
@[simp] theorem recomputeCAvail_sau_overTable (s : State) : (recomputeCAvail s).sau.overTable = s.sau.overTable := rfl
@[simp] theorem recomputeCAvail_sau_held (s : State) : (recomputeCAvail s).sau.held = s.sau.held := rfl
@[simp] theorem recomputeCAvail_sau_first (s : State) : (recomputeCAvail s).sau.first = s.sau.first := rfl
@[simp] theorem recomputeCAvail_sau_heldSeen (s : State) : (recomputeCAvail s).sau.heldSeen = s.sau.heldSeen := rfl
@[simp] theorem recomputeCAvail_sau_baseline (s : State) : (recomputeCAvail s).sau.baseline = s.sau.baseline := rfl
@[simp] theorem recomputeCAvail_sau_level (s : State) : (recomputeCAvail s).sau.level = s.sau.level := rfl
@[simp] theorem recomputeCAvail_sau_count (s : State) : (recomputeCAvail s).sau.count = s.sau.count := rfl
@[simp] theorem recomputeCAvail_sau_usedLevel (s : State) : (recomputeCAvail s).sau.usedLevel = s.sau.usedLevel := rfl
@[simp] theorem recomputeCAvail_sau_levelFresh (s : State) : (recomputeCAvail s).sau.levelFresh = s.sau.levelFresh :=
  rfl
@[simp] theorem recomputeCAvail_sau_flowFresh (s : State) : (recomputeCAvail s).sau.flowFresh = s.sau.flowFresh := rfl
@[simp] theorem recomputeCAvail_sau_vRoad (s : State) : (recomputeCAvail s).sau.vRoad = s.sau.vRoad := rfl
@[simp] theorem recomputeCAvail_sau_periodLength (s : State) :
    (recomputeCAvail s).sau.periodLength = s.sau.periodLength :=
  rfl
@[simp] theorem recomputeCAvail_sau_periodTimer (s : State) : (recomputeCAvail s).sau.periodTimer = s.sau.periodTimer :=
  rfl
@[simp] theorem recomputeCAvail_sau_posture (s : State) : (recomputeCAvail s).sau.posture = s.sau.posture := rfl
@[simp] theorem emitShed_pending (c : Claim) (s : State) : (emitShed c s).pending = s.pending := by simp [emitShed]
@[simp] theorem emitShed_agenda (c : Claim) (s : State) : (emitShed c s).agenda = s.agenda := by simp [emitShed]
@[simp] theorem emitShed_choices (c : Claim) (s : State) : (emitShed c s).choices = s.choices := by simp [emitShed]
@[simp] theorem emitShed_uptime (c : Claim) (s : State) : (emitShed c s).uptime = s.uptime := by simp [emitShed]
@[simp] theorem emitShed_running (c : Claim) (s : State) : (emitShed c s).running = s.running := by simp [emitShed]
@[simp] theorem emitShed_site (c : Claim) (s : State) : (emitShed c s).site = s.site := by simp [emitShed]
@[simp] theorem emitShed_checkOk (c : Claim) (s : State) : (emitShed c s).checkOk = s.checkOk := by simp [emitShed]
@[simp] theorem emitShed_siu (c : Claim) (s : State) : (emitShed c s).siu = s.siu := by simp [emitShed]
@[simp] theorem emitShed_sau (c : Claim) (s : State) : (emitShed c s).sau = s.sau := by simp [emitShed]
@[simp] theorem emitShed_pev (c : Claim) (s : State) : (emitShed c s).pev = s.pev := by simp [emitShed]
@[simp] theorem emitShed_pdx (c : Claim) (s : State) : (emitShed c s).pdx = s.pdx := by simp [emitShed]
@[simp] theorem emitShed_lda (c : Claim) (s : State) : (emitShed c s).lda = s.lda := by simp [emitShed]
@[simp] theorem emitShed_psq (c : Claim) (s : State) : (emitShed c s).psq = s.psq := by simp [emitShed]
@[simp] theorem emitShed_lse (c : Claim) (s : State) : (emitShed c s).lse = s.lse := by simp [emitShed]
@[simp] theorem emitShed_cfl (c : Claim) (s : State) : (emitShed c s).cfl = s.cfl := by simp [emitShed]
@[simp] theorem emitShed_rqa (c : Claim) (s : State) : (emitShed c s).rqa = s.rqa := by simp [emitShed]

/-- A fold of SHED events changes the Loop Interface alone. -/
theorem foldShed_block {α : Type} (g : State → α) (h : ∀ c s, g (emitShed c s) = g s) (l : List Claim) (s : State) :
    g (l.foldl (fun t c => emitShed c t) s) = g s := by
  induction l generalizing s with
  | nil => rfl
  | cons c l ih => rw [List.foldl_cons, ih, h]

@[simp] theorem walk_pending (o : Option Owner) (s : State) : (walk o s).pending = s.pending := by
  simp [walk, foldShed_block (fun t : State => t.pending)]
@[simp] theorem walk_choices (o : Option Owner) (s : State) : (walk o s).choices = s.choices := by
  simp [walk, foldShed_block (fun t : State => t.choices)]
@[simp] theorem walk_uptime (o : Option Owner) (s : State) : (walk o s).uptime = s.uptime := by
  simp [walk, foldShed_block (fun t : State => t.uptime)]
@[simp] theorem walk_running (o : Option Owner) (s : State) : (walk o s).running = s.running := by
  simp [walk, foldShed_block (fun t : State => t.running)]
@[simp] theorem walk_site (o : Option Owner) (s : State) : (walk o s).site = s.site := by
  simp [walk, foldShed_block (fun t : State => t.site)]
@[simp] theorem walk_checkOk (o : Option Owner) (s : State) : (walk o s).checkOk = s.checkOk := by
  simp [walk, foldShed_block (fun t : State => t.checkOk)]
@[simp] theorem walk_siu (o : Option Owner) (s : State) : (walk o s).siu = s.siu := by
  simp [walk, foldShed_block (fun t : State => t.siu)]
@[simp] theorem walk_pev (o : Option Owner) (s : State) : (walk o s).pev = s.pev := by
  simp [walk, foldShed_block (fun t : State => t.pev)]
@[simp] theorem walk_pdx (o : Option Owner) (s : State) : (walk o s).pdx = s.pdx := by
  simp [walk, foldShed_block (fun t : State => t.pdx)]
@[simp] theorem walk_psq (o : Option Owner) (s : State) : (walk o s).psq = s.psq := by
  simp [walk, foldShed_block (fun t : State => t.psq)]
@[simp] theorem walk_lse (o : Option Owner) (s : State) : (walk o s).lse = s.lse := by
  simp [walk, foldShed_block (fun t : State => t.lse)]
@[simp] theorem walk_cfl (o : Option Owner) (s : State) : (walk o s).cfl = s.cfl := by
  simp [walk, foldShed_block (fun t : State => t.cfl)]
@[simp] theorem walk_rqa (o : Option Owner) (s : State) : (walk o s).rqa = s.rqa := by
  simp [walk, foldShed_block (fun t : State => t.rqa)]
@[simp] theorem walk_lda_mains (o : Option Owner) (s : State) : (walk o s).lda.mains = s.lda.mains := by
  simp [walk, foldShed_block (fun t : State => t.lda.mains)]
@[simp] theorem walk_lda_generator (o : Option Owner) (s : State) : (walk o s).lda.generator = s.lda.generator := by
  simp [walk, foldShed_block (fun t : State => t.lda.generator)]
@[simp] theorem walk_lda_battery (o : Option Owner) (s : State) : (walk o s).lda.battery = s.lda.battery := by
  simp [walk, foldShed_block (fun t : State => t.lda.battery)]
@[simp] theorem walk_lda_fresh (o : Option Owner) (s : State) : (walk o s).lda.fresh = s.lda.fresh := by
  simp [walk, foldShed_block (fun t : State => t.lda.fresh)]
@[simp] theorem walk_lda_cls (o : Option Owner) (s : State) : (walk o s).lda.cls = s.lda.cls := by
  simp [walk, foldShed_block (fun t : State => t.lda.cls)]
@[simp] theorem walk_lda_low (o : Option Owner) (s : State) : (walk o s).lda.low = s.lda.low := by
  simp [walk, foldShed_block (fun t : State => t.lda.low)]
@[simp] theorem walk_lda_tier (o : Option Owner) (s : State) : (walk o s).lda.tier = s.lda.tier := by
  simp [walk, foldShed_block (fun t : State => t.lda.tier)]
@[simp] theorem walk_lda_limits (o : Option Owner) (s : State) : (walk o s).lda.limits = s.lda.limits := by
  simp [walk, foldShed_block (fun t : State => t.lda.limits)]
@[simp] theorem walk_sau_table (o : Option Owner) (s : State) : (walk o s).sau.table = s.sau.table := by
  simp [walk, foldShed_block (fun t : State => t.sau.table)]
@[simp] theorem walk_sau_staging (o : Option Owner) (s : State) : (walk o s).sau.staging = s.sau.staging := by
  simp [walk, foldShed_block (fun t : State => t.sau.staging)]
@[simp] theorem walk_sau_est (o : Option Owner) (s : State) : (walk o s).sau.est = s.sau.est := by
  simp [walk, foldShed_block (fun t : State => t.sau.est)]
@[simp] theorem walk_sau_overTable (o : Option Owner) (s : State) : (walk o s).sau.overTable = s.sau.overTable := by
  simp [walk, foldShed_block (fun t : State => t.sau.overTable)]
@[simp] theorem walk_sau_held (o : Option Owner) (s : State) : (walk o s).sau.held = s.sau.held := by
  simp [walk, foldShed_block (fun t : State => t.sau.held)]
@[simp] theorem walk_sau_first (o : Option Owner) (s : State) : (walk o s).sau.first = s.sau.first := by
  simp [walk, foldShed_block (fun t : State => t.sau.first)]
@[simp] theorem walk_sau_heldSeen (o : Option Owner) (s : State) : (walk o s).sau.heldSeen = s.sau.heldSeen := by
  simp [walk, foldShed_block (fun t : State => t.sau.heldSeen)]
@[simp] theorem walk_sau_baseline (o : Option Owner) (s : State) : (walk o s).sau.baseline = s.sau.baseline := by
  simp [walk, foldShed_block (fun t : State => t.sau.baseline)]
@[simp] theorem walk_sau_level (o : Option Owner) (s : State) : (walk o s).sau.level = s.sau.level := by
  simp [walk, foldShed_block (fun t : State => t.sau.level)]
@[simp] theorem walk_sau_count (o : Option Owner) (s : State) : (walk o s).sau.count = s.sau.count := by
  simp [walk, foldShed_block (fun t : State => t.sau.count)]
@[simp] theorem walk_sau_usedLevel (o : Option Owner) (s : State) : (walk o s).sau.usedLevel = s.sau.usedLevel := by
  simp [walk, foldShed_block (fun t : State => t.sau.usedLevel)]
@[simp] theorem walk_sau_levelFresh (o : Option Owner) (s : State) : (walk o s).sau.levelFresh = s.sau.levelFresh := by
  simp [walk, foldShed_block (fun t : State => t.sau.levelFresh)]
@[simp] theorem walk_sau_flowFresh (o : Option Owner) (s : State) : (walk o s).sau.flowFresh = s.sau.flowFresh := by
  simp [walk, foldShed_block (fun t : State => t.sau.flowFresh)]
@[simp] theorem walk_sau_vRoad (o : Option Owner) (s : State) : (walk o s).sau.vRoad = s.sau.vRoad := by
  simp [walk, foldShed_block (fun t : State => t.sau.vRoad)]
@[simp] theorem walk_sau_periodLength (o : Option Owner) (s : State) :
    (walk o s).sau.periodLength = s.sau.periodLength := by
  simp [walk, foldShed_block (fun t : State => t.sau.periodLength)]
@[simp] theorem walk_sau_periodTimer (o : Option Owner) (s : State) :
    (walk o s).sau.periodTimer = s.sau.periodTimer := by
  simp [walk, foldShed_block (fun t : State => t.sau.periodTimer)]
@[simp] theorem walk_sau_posture (o : Option Owner) (s : State) : (walk o s).sau.posture = s.sau.posture := by
  simp [walk, foldShed_block (fun t : State => t.sau.posture)]
@[simp] theorem askWaiting_pending (o : Owner) (n : Nat) (s : State) : (askWaiting o n s).pending = s.pending :=
  by simp [askWaiting]
@[simp] theorem askWaiting_choices (o : Owner) (n : Nat) (s : State) : (askWaiting o n s).choices = s.choices :=
  by simp [askWaiting]
@[simp] theorem askWaiting_uptime (o : Owner) (n : Nat) (s : State) : (askWaiting o n s).uptime = s.uptime :=
  by simp [askWaiting]
@[simp] theorem askWaiting_running (o : Owner) (n : Nat) (s : State) : (askWaiting o n s).running = s.running :=
  by simp [askWaiting]
@[simp] theorem askWaiting_site (o : Owner) (n : Nat) (s : State) : (askWaiting o n s).site = s.site :=
  by simp [askWaiting]
@[simp] theorem askWaiting_checkOk (o : Owner) (n : Nat) (s : State) : (askWaiting o n s).checkOk = s.checkOk :=
  by simp [askWaiting]
@[simp] theorem askWaiting_siu (o : Owner) (n : Nat) (s : State) : (askWaiting o n s).siu = s.siu :=
  by simp [askWaiting]
@[simp] theorem askWaiting_pev (o : Owner) (n : Nat) (s : State) : (askWaiting o n s).pev = s.pev :=
  by simp [askWaiting]
@[simp] theorem askWaiting_pdx (o : Owner) (n : Nat) (s : State) : (askWaiting o n s).pdx = s.pdx :=
  by simp [askWaiting]
@[simp] theorem askWaiting_psq (o : Owner) (n : Nat) (s : State) : (askWaiting o n s).psq = s.psq :=
  by simp [askWaiting]
@[simp] theorem askWaiting_lse (o : Owner) (n : Nat) (s : State) : (askWaiting o n s).lse = s.lse :=
  by simp [askWaiting]
@[simp] theorem askWaiting_cfl (o : Owner) (n : Nat) (s : State) : (askWaiting o n s).cfl = s.cfl :=
  by simp [askWaiting]
@[simp] theorem askWaiting_rqa (o : Owner) (n : Nat) (s : State) : (askWaiting o n s).rqa = s.rqa :=
  by simp [askWaiting]
@[simp] theorem askWaiting_lda_mains (o : Owner) (n : Nat) (s : State) : (askWaiting o n s).lda.mains = s.lda.mains :=
  by simp [askWaiting]
@[simp] theorem askWaiting_lda_generator (o : Owner) (n : Nat) (s : State) :
    (askWaiting o n s).lda.generator = s.lda.generator :=
  by simp [askWaiting]
@[simp] theorem askWaiting_lda_battery (o : Owner) (n : Nat) (s : State) :
    (askWaiting o n s).lda.battery = s.lda.battery :=
  by simp [askWaiting]
@[simp] theorem askWaiting_lda_fresh (o : Owner) (n : Nat) (s : State) : (askWaiting o n s).lda.fresh = s.lda.fresh :=
  by simp [askWaiting]
@[simp] theorem askWaiting_lda_cls (o : Owner) (n : Nat) (s : State) : (askWaiting o n s).lda.cls = s.lda.cls :=
  by simp [askWaiting]
@[simp] theorem askWaiting_lda_low (o : Owner) (n : Nat) (s : State) : (askWaiting o n s).lda.low = s.lda.low :=
  by simp [askWaiting]
@[simp] theorem askWaiting_lda_tier (o : Owner) (n : Nat) (s : State) : (askWaiting o n s).lda.tier = s.lda.tier :=
  by simp [askWaiting]
@[simp] theorem askWaiting_lda_limits (o : Owner) (n : Nat) (s : State) :
    (askWaiting o n s).lda.limits = s.lda.limits :=
  by simp [askWaiting]
@[simp] theorem askWaiting_sau_table (o : Owner) (n : Nat) (s : State) : (askWaiting o n s).sau.table = s.sau.table :=
  by simp [askWaiting]
@[simp] theorem askWaiting_sau_staging (o : Owner) (n : Nat) (s : State) :
    (askWaiting o n s).sau.staging = s.sau.staging :=
  by simp [askWaiting]
@[simp] theorem askWaiting_sau_est (o : Owner) (n : Nat) (s : State) : (askWaiting o n s).sau.est = s.sau.est :=
  by simp [askWaiting]
@[simp] theorem askWaiting_sau_overTable (o : Owner) (n : Nat) (s : State) :
    (askWaiting o n s).sau.overTable = s.sau.overTable :=
  by simp [askWaiting]
@[simp] theorem askWaiting_sau_held (o : Owner) (n : Nat) (s : State) : (askWaiting o n s).sau.held = s.sau.held :=
  by simp [askWaiting]
@[simp] theorem askWaiting_sau_first (o : Owner) (n : Nat) (s : State) : (askWaiting o n s).sau.first = s.sau.first :=
  by simp [askWaiting]
@[simp] theorem askWaiting_sau_heldSeen (o : Owner) (n : Nat) (s : State) :
    (askWaiting o n s).sau.heldSeen = s.sau.heldSeen :=
  by simp [askWaiting]
@[simp] theorem askWaiting_sau_baseline (o : Owner) (n : Nat) (s : State) :
    (askWaiting o n s).sau.baseline = s.sau.baseline :=
  by simp [askWaiting]
@[simp] theorem askWaiting_sau_level (o : Owner) (n : Nat) (s : State) : (askWaiting o n s).sau.level = s.sau.level :=
  by simp [askWaiting]
@[simp] theorem askWaiting_sau_count (o : Owner) (n : Nat) (s : State) : (askWaiting o n s).sau.count = s.sau.count :=
  by simp [askWaiting]
@[simp] theorem askWaiting_sau_usedLevel (o : Owner) (n : Nat) (s : State) :
    (askWaiting o n s).sau.usedLevel = s.sau.usedLevel :=
  by simp [askWaiting]
@[simp] theorem askWaiting_sau_levelFresh (o : Owner) (n : Nat) (s : State) :
    (askWaiting o n s).sau.levelFresh = s.sau.levelFresh :=
  by simp [askWaiting]
@[simp] theorem askWaiting_sau_flowFresh (o : Owner) (n : Nat) (s : State) :
    (askWaiting o n s).sau.flowFresh = s.sau.flowFresh :=
  by simp [askWaiting]
@[simp] theorem askWaiting_sau_vRoad (o : Owner) (n : Nat) (s : State) : (askWaiting o n s).sau.vRoad = s.sau.vRoad :=
  by simp [askWaiting]
@[simp] theorem askWaiting_sau_periodLength (o : Owner) (n : Nat) (s : State) :
    (askWaiting o n s).sau.periodLength = s.sau.periodLength :=
  by simp [askWaiting]
@[simp] theorem askWaiting_sau_periodTimer (o : Owner) (n : Nat) (s : State) :
    (askWaiting o n s).sau.periodTimer = s.sau.periodTimer :=
  by simp [askWaiting]
@[simp] theorem askWaiting_sau_posture (o : Owner) (n : Nat) (s : State) :
    (askWaiting o n s).sau.posture = s.sau.posture :=
  by simp [askWaiting]
@[simp] theorem release_pending (o : Owner) (s : State) : (release o s).pending = s.pending := by
  unfold release; split <;> simp
@[simp] theorem release_choices (o : Owner) (s : State) : (release o s).choices = s.choices := by
  unfold release; split <;> simp
@[simp] theorem release_uptime (o : Owner) (s : State) : (release o s).uptime = s.uptime := by
  unfold release; split <;> simp
@[simp] theorem release_running (o : Owner) (s : State) : (release o s).running = s.running := by
  unfold release; split <;> simp
@[simp] theorem release_site (o : Owner) (s : State) : (release o s).site = s.site := by
  unfold release; split <;> simp
@[simp] theorem release_checkOk (o : Owner) (s : State) : (release o s).checkOk = s.checkOk := by
  unfold release; split <;> simp
@[simp] theorem release_siu (o : Owner) (s : State) : (release o s).siu = s.siu := by
  unfold release; split <;> simp
@[simp] theorem release_pev (o : Owner) (s : State) : (release o s).pev = s.pev := by
  unfold release; split <;> simp
@[simp] theorem release_pdx (o : Owner) (s : State) : (release o s).pdx = s.pdx := by
  unfold release; split <;> simp
@[simp] theorem release_psq (o : Owner) (s : State) : (release o s).psq = s.psq := by
  unfold release; split <;> simp
@[simp] theorem release_lse (o : Owner) (s : State) : (release o s).lse = s.lse := by
  unfold release; split <;> simp
@[simp] theorem release_cfl (o : Owner) (s : State) : (release o s).cfl = s.cfl := by
  unfold release; split <;> simp
@[simp] theorem release_rqa (o : Owner) (s : State) : (release o s).rqa = s.rqa := by
  unfold release; split <;> simp
@[simp] theorem release_lda_mains (o : Owner) (s : State) : (release o s).lda.mains = s.lda.mains := by
  unfold release; split <;> simp
@[simp] theorem release_lda_generator (o : Owner) (s : State) : (release o s).lda.generator = s.lda.generator := by
  unfold release; split <;> simp
@[simp] theorem release_lda_battery (o : Owner) (s : State) : (release o s).lda.battery = s.lda.battery := by
  unfold release; split <;> simp
@[simp] theorem release_lda_fresh (o : Owner) (s : State) : (release o s).lda.fresh = s.lda.fresh := by
  unfold release; split <;> simp
@[simp] theorem release_lda_cls (o : Owner) (s : State) : (release o s).lda.cls = s.lda.cls := by
  unfold release; split <;> simp
@[simp] theorem release_lda_low (o : Owner) (s : State) : (release o s).lda.low = s.lda.low := by
  unfold release; split <;> simp
@[simp] theorem release_lda_tier (o : Owner) (s : State) : (release o s).lda.tier = s.lda.tier := by
  unfold release; split <;> simp
@[simp] theorem release_lda_limits (o : Owner) (s : State) : (release o s).lda.limits = s.lda.limits := by
  unfold release; split <;> simp
@[simp] theorem release_sau_table (o : Owner) (s : State) : (release o s).sau.table = s.sau.table := by
  unfold release; split <;> simp
@[simp] theorem release_sau_staging (o : Owner) (s : State) : (release o s).sau.staging = s.sau.staging := by
  unfold release; split <;> simp
@[simp] theorem release_sau_est (o : Owner) (s : State) : (release o s).sau.est = s.sau.est := by
  unfold release; split <;> simp
@[simp] theorem release_sau_overTable (o : Owner) (s : State) : (release o s).sau.overTable = s.sau.overTable := by
  unfold release; split <;> simp
@[simp] theorem release_sau_held (o : Owner) (s : State) : (release o s).sau.held = s.sau.held := by
  unfold release; split <;> simp
@[simp] theorem release_sau_first (o : Owner) (s : State) : (release o s).sau.first = s.sau.first := by
  unfold release; split <;> simp
@[simp] theorem release_sau_heldSeen (o : Owner) (s : State) : (release o s).sau.heldSeen = s.sau.heldSeen := by
  unfold release; split <;> simp
@[simp] theorem release_sau_baseline (o : Owner) (s : State) : (release o s).sau.baseline = s.sau.baseline := by
  unfold release; split <;> simp
@[simp] theorem release_sau_level (o : Owner) (s : State) : (release o s).sau.level = s.sau.level := by
  unfold release; split <;> simp
@[simp] theorem release_sau_count (o : Owner) (s : State) : (release o s).sau.count = s.sau.count := by
  unfold release; split <;> simp
@[simp] theorem release_sau_usedLevel (o : Owner) (s : State) : (release o s).sau.usedLevel = s.sau.usedLevel := by
  unfold release; split <;> simp
@[simp] theorem release_sau_levelFresh (o : Owner) (s : State) : (release o s).sau.levelFresh = s.sau.levelFresh := by
  unfold release; split <;> simp
@[simp] theorem release_sau_flowFresh (o : Owner) (s : State) : (release o s).sau.flowFresh = s.sau.flowFresh := by
  unfold release; split <;> simp
@[simp] theorem release_sau_vRoad (o : Owner) (s : State) : (release o s).sau.vRoad = s.sau.vRoad := by
  unfold release; split <;> simp
@[simp] theorem release_sau_periodLength (o : Owner) (s : State) :
    (release o s).sau.periodLength = s.sau.periodLength := by
  unfold release; split <;> simp
@[simp] theorem release_sau_periodTimer (o : Owner) (s : State) :
    (release o s).sau.periodTimer = s.sau.periodTimer := by
  unfold release; split <;> simp
@[simp] theorem release_sau_posture (o : Owner) (s : State) : (release o s).sau.posture = s.sau.posture := by
  unfold release; split <;> simp
@[simp] theorem askAtOnce_pending (o : Owner) (n : Nat) (s : State) : ((askAtOnce o n s).2).pending = s.pending := by
  unfold askAtOnce; split <;> simp
@[simp] theorem askAtOnce_choices (o : Owner) (n : Nat) (s : State) : ((askAtOnce o n s).2).choices = s.choices := by
  unfold askAtOnce; split <;> simp
@[simp] theorem askAtOnce_uptime (o : Owner) (n : Nat) (s : State) : ((askAtOnce o n s).2).uptime = s.uptime := by
  unfold askAtOnce; split <;> simp
@[simp] theorem askAtOnce_running (o : Owner) (n : Nat) (s : State) : ((askAtOnce o n s).2).running = s.running := by
  unfold askAtOnce; split <;> simp
@[simp] theorem askAtOnce_site (o : Owner) (n : Nat) (s : State) : ((askAtOnce o n s).2).site = s.site := by
  unfold askAtOnce; split <;> simp
@[simp] theorem askAtOnce_checkOk (o : Owner) (n : Nat) (s : State) : ((askAtOnce o n s).2).checkOk = s.checkOk := by
  unfold askAtOnce; split <;> simp
@[simp] theorem askAtOnce_siu (o : Owner) (n : Nat) (s : State) : ((askAtOnce o n s).2).siu = s.siu := by
  unfold askAtOnce; split <;> simp
@[simp] theorem askAtOnce_pev (o : Owner) (n : Nat) (s : State) : ((askAtOnce o n s).2).pev = s.pev := by
  unfold askAtOnce; split <;> simp
@[simp] theorem askAtOnce_pdx (o : Owner) (n : Nat) (s : State) : ((askAtOnce o n s).2).pdx = s.pdx := by
  unfold askAtOnce; split <;> simp
@[simp] theorem askAtOnce_psq (o : Owner) (n : Nat) (s : State) : ((askAtOnce o n s).2).psq = s.psq := by
  unfold askAtOnce; split <;> simp
@[simp] theorem askAtOnce_lse (o : Owner) (n : Nat) (s : State) : ((askAtOnce o n s).2).lse = s.lse := by
  unfold askAtOnce; split <;> simp
@[simp] theorem askAtOnce_cfl (o : Owner) (n : Nat) (s : State) : ((askAtOnce o n s).2).cfl = s.cfl := by
  unfold askAtOnce; split <;> simp
@[simp] theorem askAtOnce_rqa (o : Owner) (n : Nat) (s : State) : ((askAtOnce o n s).2).rqa = s.rqa := by
  unfold askAtOnce; split <;> simp
@[simp] theorem askAtOnce_lda_mains (o : Owner) (n : Nat) (s : State) :
    ((askAtOnce o n s).2).lda.mains = s.lda.mains := by
  unfold askAtOnce; split <;> simp
@[simp] theorem askAtOnce_lda_generator (o : Owner) (n : Nat) (s : State) :
    ((askAtOnce o n s).2).lda.generator = s.lda.generator := by
  unfold askAtOnce; split <;> simp
@[simp] theorem askAtOnce_lda_battery (o : Owner) (n : Nat) (s : State) :
    ((askAtOnce o n s).2).lda.battery = s.lda.battery := by
  unfold askAtOnce; split <;> simp
@[simp] theorem askAtOnce_lda_fresh (o : Owner) (n : Nat) (s : State) :
    ((askAtOnce o n s).2).lda.fresh = s.lda.fresh := by
  unfold askAtOnce; split <;> simp
@[simp] theorem askAtOnce_lda_cls (o : Owner) (n : Nat) (s : State) : ((askAtOnce o n s).2).lda.cls = s.lda.cls := by
  unfold askAtOnce; split <;> simp
@[simp] theorem askAtOnce_lda_low (o : Owner) (n : Nat) (s : State) : ((askAtOnce o n s).2).lda.low = s.lda.low := by
  unfold askAtOnce; split <;> simp
@[simp] theorem askAtOnce_lda_tier (o : Owner) (n : Nat) (s : State) : ((askAtOnce o n s).2).lda.tier = s.lda.tier := by
  unfold askAtOnce; split <;> simp
@[simp] theorem askAtOnce_lda_limits (o : Owner) (n : Nat) (s : State) :
    ((askAtOnce o n s).2).lda.limits = s.lda.limits := by
  unfold askAtOnce; split <;> simp

end Sys2Proof.Machine
end

