-- ==== Sys2Proof/Laws/Exec.lean ====
section
/-! SUPPORT. The shape of every meaning: what a command does itself (`work`), then the announcements of its handling. With it,
the principle by which a condition is carried from the tasks and the works to `exec` and `step`, and the value of a handling
that leaves one announcement. -/

namespace Sys2Proof.Machine

/-! ## What a command does itself -/

/-- The command is taken by a part held in reset too (R188). -/
def always : Instr → Bool
  | .powerUpReset _ => true
  | .supplyReset => true
  | .supplyReturn => true
  | _ => false

/-- What a command does before the announcements of its handling are taken. -/
def work : Instr → State → State
  | .portAArrival c => arriveA c
  | .portBArrival c => arriveB c
  | .supervisoryCommand c => takeCommand c
  | .status p i => takeRequest 1 i.toNat (statusRequest p.toNat)
  | .readEstimates f i => takeRequest 2 i.toNat (readOnly (readEstimates f.toNat))
  | .readLoad f i => takeRequest 3 i.toNat (readOnly (readLoad f.toNat))
  | .readField t f i => takeRequest 4 i.toNat (readOnly (readField t.toNat f.toNat i.toNat))
  | .writeField t f i v => takeRequest 5 i.toNat (writeField t.toNat f.toNat i.toNat v.toInt)
  | .writeFieldSite f i v => takeRequest 5 i.toNat (writeField 1 f.toNat i.toNat v.toInt)
  | .writeFieldStageTable f i v => takeRequest 5 i.toNat (writeField 2 f.toNat i.toNat v.toInt)
  | .writeFieldPostureThresholds f i v => takeRequest 5 i.toNat (writeField 3 f.toNat i.toNat v.toInt)
  | .writeFieldNodeTable f i v => takeRequest 5 i.toNat (writeField 4 f.toNat i.toNat v.toInt)
  | .writeFieldPumpTable f i v => takeRequest 5 i.toNat (writeField 5 f.toNat i.toNat v.toInt)
  | .writeFieldLevelLadder f i v => takeRequest 5 i.toNat (writeField 6 f.toNat i.toNat v.toInt)
  | .writeFieldLoadLimits f i v => takeRequest 5 i.toNat (writeField 7 f.toNat i.toNat v.toInt)
  | .writeFieldPortalTable f i v => takeRequest 5 i.toNat (writeField 8 f.toNat i.toNat v.toInt)
  | .writeFieldZoneTable f i v => takeRequest 5 i.toNat (writeField 9 f.toNat i.toNat v.toInt)
  | .writeFieldSceneTable f i v => takeRequest 5 i.toNat (writeField 10 f.toNat i.toNat v.toInt)
  | .writeFieldAuthorityTable f i v => takeRequest 5 i.toNat (writeField 11 f.toNat i.toNat v.toInt)
  | .writeFieldRuleTable f i v => takeRequest 5 i.toNat (writeField 12 f.toNat i.toNat v.toInt)
  | .readCounters g i => takeRequest 6 i.toNat (readCounters g.toNat i.toNat)
  | .openEdit i => takeRequest 7 i.toNat openEditRequest
  | .closeEdit i => takeRequest 8 i.toNat closeEditRequest
  | .abandonEdit i => takeRequest 9 i.toNat abandonEditRequest
  | .senseCompletion _ => senseRequest
  | .homeGate i => takeRequest 11 i.toNat (onPortal i.toNat homeGateRequest)
  | .moveGateOpen i => takeRequest 12 i.toNat (onPortal i.toNat moveOpenRequest)
  | .moveGateClose i => takeRequest 12 i.toNat (onPortal i.toNat moveCloseRequest)
  | .lampTest i => takeRequest 13 i.toNat (onZone i.toNat lampTestRequest)
  | .reopen i => takeRequest 14 i.toNat reopenRequest
  | .closeRoadway i => takeRequest 15 i.toNat closeRoadwayRequest
  | .lockPump i => takeRequest 16 i.toNat (onPump i.toNat lockRequest)
  | .unlockPump i => takeRequest 17 i.toNat (onPump i.toNat unlockRequest)
  | .clearFault i => takeRequest 18 i.toNat (onPump i.toNat clearFaultRequest)
  | .rotate i => takeRequest 19 i.toNat (onPump i.toNat rotateRequest)
  | .clearUnknown i => takeRequest 20 i.toNat clearUnknownRequest
  | .programIdentity f i v => takeRequest 21 i.toNat (programRequest f.toNat v.toInt)
  | .readIdentity f i => takeRequest 22 i.toNat (readOnly (readIdentity f.toNat))
  | .resetPart i => takeRequest 23 i.toNat resetRequest
  | .powerUpReset b => powerUp b
  | .supplyReset => supplyFalls
  | .requestedReset => requestedReset
  | .accountingPeriodExpiry => periodEnds
  | .descentTimerExpiry => descentEnds
  | .spinUpExpiry n => forPump n spinUpEnds
  | .stopConfirmExpiry n => forPump n stopConfirmEnds
  | .minimumRunExpiry n => forPump n minimumRunEnds
  | .restExpiry n => forPump n restEnds
  | .limitTimerExpiry n => forPump n limitEnds
  | .warningExpiry n => forPortal n warningEnds
  | .clearTimerExpiry n => forPortal n clearEnds
  | .holdLongExpiry n => forPortal n holdLongEnds
  | .progressTimerExpiry n => forPortal n progressEnds
  | .homingTimerExpiry n => forPortal n homingEnds
  | .steadyTimerExpiry n => forZone n steadyEnds
  | .lampTestTimerExpiry n => forZone n testTimerEnds
  | .staleTimerExpiry a => staleEnds a
  | .supervisionTimerExpiry => supervisionEnds
  | .portATransmitComplete => portAComplete
  | .portBTransmitComplete => portBSent
  | .supplyReturn => supplyReturns

/-- Every meaning is the command's own work, carried to its end; a part held in reset takes the three rows of R188 alone. -/
theorem exec_eq (c : Instr) (s : State) :
    exec c s = if always c || s.running then .next (settle (work c s)) else .next s := by
  cases c <;> rfl

/-- Every command answers a next state. -/
theorem exec_next (c : Instr) (s : State) : ∃ t, exec c s = .next t := by
  rw [exec_eq]; split <;> exact ⟨_, rfl⟩

/-! ## Carrying a condition -/

/-- A condition that the tasks keep, whatever waits on the agenda, a handling's announcements keep. -/
theorem settle_keeps {P : State → Prop} (wait : ∀ l s, P s → P { s with agenda := l })
    (task : ∀ t s, P s → P (runTask t s)) (s : State) (h : P s) : P (settle s) := by
  have go : ∀ n s, P s → P (drain n s) := by
    intro n
    induction n with
    | zero => exact fun s h => h
    | succ n ih =>
      intro s h
      unfold drain
      split
      · exact h
      · exact ih _ (wait _ _ (task _ _ (wait _ _ h)))
  exact go _ s h

/-- A condition that the tasks and a command's work keep, its meaning keeps. -/
theorem exec_keeps {P : State → Prop} (wait : ∀ l s, P s → P { s with agenda := l })
    (task : ∀ t s, P s → P (runTask t s)) {c : Instr} {s t : State} (own : P s → P (work c s))
    (h : P s) (e : exec c s = .next t) : P t := by
  rw [exec_eq] at e
  split at e
  · cases e; exact settle_keeps wait task _ (own h)
  · cases e; exact h

/-- A condition that the tasks, the works and the passing of a second keep, whatever commands wait, every step keeps. -/
theorem step_keeps {P : State → Prop} (wait : ∀ l s, P s → P { s with agenda := l })
    (queue : ∀ l s, P s → P { s with pending := l }) (task : ∀ t s, P s → P (runTask t s))
    (own : ∀ c s, P s → P (work c s)) (tick : ∀ s, P s → P (second s)) {s t : State} (h : P s)
    (e : step s = .next t) : P t := by
  unfold step at e
  split at e
  · cases e; exact tick s h
  · exact exec_keeps wait task (own _ _) (queue _ _ h) e

/-! ## Short handlings -/

theorem drain_of_none (n : Nat) (s : State) (h : s.agenda = []) : drain n s = s := by
  cases n with
  | zero => rfl
  | succ n => unfold drain; simp [h]

/-- With nothing waiting, a handling is at its end. -/
theorem settle_of_none (s : State) (h : s.agenda = []) : settle s = s := drain_of_none _ s h

/-- A handling that leaves one announcement, which raises no other. -/
theorem settle_one (t : Task) (s : State) (h : s.agenda = []) (hr : (runTask t s).agenda = []) :
    settle (post t s) = runTask t s := by
  have e : { post t s with agenda := [] } = s := by cases s; simp_all [post]
  show drain (4095 + 1) (post t s) = _
  rw [drain]
  simp only [post_agenda, h, List.nil_append, e, hr, putAhead]
  rw [drain_of_none _ _ rfl]
  generalize runTask t s = u at hr ⊢
  cases u; simp_all

@[simp] theorem placeReply_agenda (n i : Nat) (a : Answer) (s : State) : (placeReply n i a s).agenda = s.agenda := by
  unfold placeReply countReply; split <;> simp

/-- A request whose handling leaves nothing but its REPLY. -/
theorem settle_reply (n i : Nat) (a : Answer) (s : State) (h : s.agenda = []) :
    settle (post (.reply n i a) s) = placeReply n i a s :=
  settle_one _ s h (by simp [runTask, h])

/-- A handling that leaves nothing but an event. -/
theorem settle_emit (e : Event) (i : Nat) (v : Int) (hi lo : Nat) (s : State) (h : s.agenda = []) :
    settle (post (.emit e i v hi lo) s) = emit e i v hi lo s :=
  settle_one _ s h (by simp [runTask, h])

/-- With the reply slot free, a request is handled and its REPLY put behind the announcements of its handling (R169). -/
theorem takeRequest_free (n i : Nat) (f : State → Answer × State) (s : State) (h : s.rqa.replySlot = false) :
    takeRequest n i f s = post (.reply n i (f s).1) (f s).2 := by
  simp [takeRequest, h]

/-! ## The meanings of a running part -/

/-- A running part takes every command. -/
theorem exec_running (c : Instr) (s : State) (h : s.running = true) : exec c s = .next (settle (work c s)) := by
  simp [exec_eq, h]

/-- A command that announces nothing answers its own work. -/
theorem exec_short (c : Instr) (s : State) (h : s.running = true) (ha : (work c s).agenda = []) :
    exec c s = .next (work c s) := by
  rw [exec_running c s h, settle_of_none _ ha]

/-- A request that announces nothing answers its own work and its REPLY. -/
theorem exec_request {c : Instr} {n i : Nat} {f : State → Answer × State} {s : State} (h : s.running = true)
    (hs : s.rqa.replySlot = false) (hw : work c s = takeRequest n i f s) (ha : (f s).2.agenda = []) :
    exec c s = .next (placeReply n i (f s).1 (f s).2) := by
  rw [exec_running c s h, hw, takeRequest_free n i f s hs, settle_reply n i _ _ ha]

/-- A request that finds the reply slot occupied is counted and discarded (R169). -/
theorem exec_overrun {c : Instr} {n i : Nat} {f : State → Answer × State} {s : State} (h : s.running = true)
    (ha : s.agenda = []) (hs : s.rqa.replySlot = true) (hw : work c s = takeRequest n i f s) :
    exec c s = .next { s with rqa.overrun := bump s.rqa.overrun } := by
  rw [exec_running c s h, hw, takeRequest, if_pos hs]
  exact congrArg _ (settle_of_none _ ha)

end Sys2Proof.Machine
end

