-- ==== Sys2Proof/Laws/Frame.lean ====
section
/-! SUPPORT. The part of State that no announcement inside a handling changes (`State.fixed`), and one lemma for each shared
operation that says so. A statement about tables, configuration, counters of arrivals or the node records is carried through
`settle` by `fixed_settle`. -/

namespace Sys2Proof.Machine

/-- Every task but a REQUEST, which may write a table. -/
def Task.internal : Task → Bool
  | .request _ => false
  | _ => true

/-- What no internal announcement changes. -/
structure Fixed where
  pending : List Instr
  uptime : Word
  running : Bool
  site : Site
  checkOk : Vector Bool 13
  siu : Siu
  stage : StageTable
  vRoad : Option Int
  est : Option Estimates
  sauMarks : Bool × Bool × Bool × Bool
  baseline : Option Int
  usedLevel : Option Int
  thresholds : Thresholds
  forced : Bool
  pumpConfig : Vector PumpConfig 6
  lockoutSet : Vector Bool 6
  ladder : Ladder
  limits : Limits
  portalConfig : Vector PortalConfig 2
  zoneConfig : Vector ZoneConfig 8
  scene : Scene
  authority : AuthorityTable
  rules : RuleTable
  supervision : Supervision
  timer : Option Nat
  firstPresence : Bool
  store : Store
  inUse : Commissioned
  cause : ResetCause
  failed : Vector Bool 13
  heldReset : Bool
  overrun : Nat
  headSending : Bool
  txA : Cell
  txB : Cell
  arrivals : Nat × Nat × Nat × Nat × Nat × Nat
  /-- the agenda holds no REQUEST -/
  quiet : Bool

/-- The fixed part of a state. -/
def State.fixed (s : State) : Fixed :=
  { pending := s.pending, uptime := s.uptime, running := s.running, site := s.site, checkOk := s.checkOk, siu := s.siu,
    stage := s.sau.table, vRoad := s.sau.vRoad, est := s.sau.est,
    sauMarks := (s.sau.overTable, s.sau.held, s.sau.first, s.sau.heldSeen), baseline := s.sau.baseline,
    usedLevel := s.sau.usedLevel, thresholds := s.pev.thresholds, forced := s.pev.forced, pumpConfig := s.pdx.config, lockoutSet := s.pdx.lockoutSet,
    ladder := s.pdx.ladder, limits := s.lda.limits, portalConfig := s.psq.config, zoneConfig := s.lse.config,
    scene := s.lse.scene, authority := s.cfl.authority, rules := s.cfl.rules, supervision := s.cfl.supervision,
    timer := s.cfl.timer, firstPresence := s.cfl.firstPresence, store := s.rqa.store, inUse := s.rqa.inUse,
    cause := s.rqa.cause, failed := s.rqa.failed, heldReset := s.rqa.heldReset, overrun := s.rqa.overrun,
    headSending := s.lif.headSending, txA := s.lif.txA, txB := s.lif.txB,
    arrivals := (s.lif.checkErrorsA, s.lif.checkErrorsB, s.lif.malformedA, s.lif.malformedB, s.lif.foreign,
      s.lif.misdirected),
    quiet := s.agenda.all Task.internal }

/-- A fold of steps that keep the fixed part keeps it. -/
theorem fixed_foldl {α : Type} (f : State → α → State) (h : ∀ s a, (f s a).fixed = s.fixed) (l : List α) (s : State) :
    (l.foldl f s).fixed = s.fixed := by
  induction l generalizing s with
  | nil => rfl
  | cons a l ih => simp [ih, h]

/-! ## Ops -/

@[simp] theorem fixed_dropEntry (k : EntryKind) (s : State) : (dropEntry k s).fixed = s.fixed := by cases k <;> rfl

@[simp] theorem fixed_offer (k : EntryKind) (c : Cell) (s : State) : (offer k c s).fixed = s.fixed := by
  unfold offer; split
  · rfl
  · exact fixed_dropEntry k s

@[simp] theorem fixed_emit (e : Event) (i : Nat) (v : Int) (hi lo : Nat) (s : State) :
    (emit e i v hi lo s).fixed = s.fixed := fixed_offer _ _ _

@[simp] theorem fixed_offerPassThrough (c : Cell) (s : State) : (offerPassThrough c s).fixed = s.fixed := by
  unfold offerPassThrough; split <;> rfl

theorem fixed_postAll {ts : List Task} (h : ts.all Task.internal) (s : State) : (postAll ts s).fixed = s.fixed := by
  simp [postAll, State.fixed, List.all_append, h]

theorem fixed_post {t : Task} (h : t.internal) (s : State) : (post t s).fixed = s.fixed := by
  simp [post, State.fixed, h]

theorem insertAt_all {α : Type} (p : α → Bool) (n : Nat) (x : α) (l : List α) :
    (insertAt n x l).all p = (p x && l.all p) := by
  induction l generalizing n with
  | nil => cases n <;> simp [insertAt]
  | cons y ys ih => cases n <;> simp [insertAt, ih, Bool.and_left_comm]

theorem permute_all {α : Type} (p : α → Bool) (n : Nat) (l : List α) : (permute n l).all p = l.all p := by
  induction l generalizing n with
  | nil => rfl
  | cons x xs ih => simp [permute, insertAt_all, ih]

theorem fixed_choices (c : List Nat) (s : State) : ({ s with choices := c } : State).fixed = s.fixed := rfl

theorem fixed_postUnordered {ts : List Task} (h : ts.all Task.internal) (s : State) :
    (postUnordered ts s).fixed = s.fixed := by
  unfold postUnordered; split
  · rw [fixed_postAll (by rw [permute_all]; exact h), fixed_choices]
  · exact fixed_postAll h s

@[simp] theorem fixed_writeSlot (k : Fin 20) (v : Int) (src : SlotSource) (s : State) :
    (writeSlot k v src s).fixed = s.fixed := by
  unfold writeSlot; split <;> rfl

@[simp] theorem fixed_engineWrite (k : Fin 20) (v : Int) (s : State) : (engineWrite k v s).fixed = s.fixed := by
  unfold engineWrite; split
  · simp
  · rfl

@[simp] theorem fixed_engineKeep (k : Fin 20) (v : Int) (s : State) : (engineKeep k v s).fixed = s.fixed := by
  unfold engineKeep; split
  · rfl
  · simp

/-! ## The Load Account -/

@[simp] theorem fixed_recomputeCAvail (s : State) : (recomputeCAvail s).fixed = s.fixed := rfl

@[simp] theorem fixed_emitShed (c : Claim) (s : State) : (emitShed c s).fixed = s.fixed := fixed_emit _ _ _ _ _ _

@[simp] theorem fixed_walk (o : Option Owner) (s : State) : (walk o s).fixed = s.fixed := by
  unfold walk
  dsimp only
  rw [fixed_recomputeCAvail, fixed_postAll (by simp [Task.internal]), fixed_foldl _ (fun s c => fixed_emitShed c s)]
  rfl

@[simp] theorem fixed_askWaiting (o : Owner) (n : Nat) (s : State) : (askWaiting o n s).fixed = s.fixed := by
  unfold askWaiting; rw [fixed_walk]; rfl

@[simp] theorem fixed_askAtOnce (o : Owner) (n : Nat) (s : State) : (askAtOnce o n s).2.fixed = s.fixed := by
  unfold askAtOnce; split
  · simp
  · rfl

@[simp] theorem fixed_release (o : Owner) (s : State) : (release o s).fixed = s.fixed := by
  unfold release; split
  · rw [fixed_walk]; rfl
  · rfl

@[simp] theorem fixed_changeTier (t : Tier) (s : State) : (changeTier t s).fixed = s.fixed := by
  unfold changeTier
  dsimp only
  rw [fixed_post rfl, fixed_walk]
  exact fixed_emit _ _ _ _ _ s

@[simp] theorem fixed_deriveTier (s : State) : (deriveTier s).fixed = s.fixed := by
  unfold deriveTier; split
  · rfl
  · simp

@[simp] theorem fixed_lowBattery (v : Int) (s : State) : (lowBattery v s).fixed = s.fixed := by
  unfold lowBattery; split
  · rw [fixed_emit]; rfl
  · split <;> rfl

@[simp] theorem fixed_takeBattery (v : Int) (s : State) : (takeBattery v s).fixed = s.fixed := by
  unfold takeBattery; dsimp only; rw [fixed_lowBattery]; rfl

@[simp] theorem fixed_takeSupply (c : Nat) (v : Int) (s : State) : (takeSupply c v s).fixed = s.fixed := by
  unfold takeSupply
  split
  · rw [fixed_deriveTier]; rfl
  · rw [fixed_deriveTier]; rfl
  · simp
  · rfl

@[simp] theorem fixed_supplyDelivery (d : Delivery) (s : State) : (supplyDelivery d s).fixed = s.fixed := by
  unfold supplyDelivery
  dsimp only
  split
  · rw [fixed_takeSupply]; rfl
  · rfl

/-! ## Pumps -/

@[simp] theorem fixed_setPump (i : Fin 6) (f : Pump → Pump) (s : State) : (setPump i f s).fixed = s.fixed := rfl

@[simp] theorem fixed_recomputeDemand (s : State) : (recomputeDemand s).fixed = s.fixed := rfl

@[simp] theorem fixed_evaluateRungs (l : Option Int) (s : State) : (evaluateRungs l s).fixed = s.fixed := rfl

@[simp] theorem fixed_emitPumpState (i : Fin 6) (p : PumpState) (c : PumpCause) (s : State) :
    (emitPumpState i p c s).fixed = s.fixed := fixed_emit _ _ _ _ _ _

@[simp] theorem fixed_pumpChanged (i : Fin 6) (p : PumpState) (c : PumpCause) (s : State) :
    (pumpChanged i p c s).fixed = s.fixed := by
  unfold pumpChanged; dsimp only; rw [fixed_postAll rfl]; simp

@[simp] theorem fixed_toStopping (i : Fin 6) (c : StopCause) (s : State) : (toStopping i c s).fixed = s.fixed := by
  simp [toStopping]

@[simp] theorem fixed_startPump (i : Fin 6) (o : Origin) (s : State) : (startPump i o s).fixed = s.fixed := by
  cases o <;> simp [startPump]

@[simp] theorem fixed_toRunning (i : Fin 6) (c : PumpCause) (s : State) : (toRunning i c s).fixed = s.fixed := by
  simp [toRunning]

@[simp] theorem fixed_unbiddenStop (i : Fin 6) (s : State) : (unbiddenStop i s).fixed = s.fixed := by simp [unbiddenStop]

@[simp] theorem fixed_rotateAfterStop (i : Fin 6) (c : Option StopCause) (s : State) :
    (rotateAfterStop i c s).fixed = s.fixed := by
  unfold rotateAfterStop; split <;> rfl

@[simp] theorem fixed_confirmedStop (i : Fin 6) (s : State) : (confirmedStop i s).fixed = s.fixed := by
  simp [confirmedStop]

@[simp] theorem fixed_toFaultSet (i : Fin 6) (s : State) : (toFaultSet i s).fixed = s.fixed := by
  unfold toFaultSet; split <;> rfl

@[simp] theorem fixed_enterFault (i : Fin 6) (r : PumpFault) (s : State) : (enterFault i r s).fixed = s.fixed := by
  unfold enterFault; dsimp only; rw [fixed_pumpChanged, fixed_emit]; split <;> split <;> simp

@[simp] theorem fixed_reportInFault (i : Fin 6) (f : Half) (s : State) : (reportInFault i f s).fixed = s.fixed := by
  unfold reportInFault; dsimp only
  split
  · split
    · rfl
    · split <;> simp
  · split
    · rw [fixed_post rfl]; simp
    · rfl

@[simp] theorem fixed_adopt (i : Fin 6) (s : State) : (adopt i s).fixed = s.fixed := by
  unfold adopt; dsimp only
  split
  · split <;> simp
  · simp

@[simp] theorem fixed_starterReport (i : Fin 6) (f : Half) (s : State) : (starterReport i f s).fixed = s.fixed := by
  unfold starterReport; dsimp only
  split <;> (repeat' split) <;> simp

@[simp] theorem fixed_starterFresh (i : Fin 6) (f : Freshness) (s : State) : (starterFresh i f s).fixed = s.fixed := by
  unfold starterFresh; dsimp only; split <;> simp

@[simp] theorem fixed_starterDelivery (i : Fin 6) (d : Delivery) (s : State) :
    (starterDelivery i d s).fixed = s.fixed := by
  unfold starterDelivery
  rcases d.fresh with _ | f <;> dsimp only [Option.isSome_none, Option.isSome_some]
  · rw [if_neg Bool.false_ne_true]; split <;> simp
  · rw [if_pos rfl, fixed_post rfl]; split <;> simp

@[simp] theorem fixed_attempt (i : Fin 6) (s : State) : (attempt i s).fixed = s.fixed := rfl

@[simp] theorem fixed_skipLimited (i : Fin 6) (s : State) : (skipLimited i s).fixed = s.fixed := by
  unfold skipLimited; split
  · rfl
  · simp

@[simp] theorem fixed_endPowerWait (i : Fin 6) (s : State) : (endPowerWait i s).fixed = s.fixed := by simp [endPowerWait]

@[simp] theorem fixed_askForStart (i : Fin 6) (s : State) : (askForStart i s).fixed = s.fixed := by
  unfold askForStart; dsimp only; split <;> simp

@[simp] theorem fixed_demandStops (n : Nat) (s : State) : (demandStops n s).fixed = s.fixed := by
  induction n generalizing s with
  | zero => rfl
  | succ n ih =>
    unfold demandStops
    split
    · rfl
    · split
      · rfl
      · split
        · rw [ih]; simp
        · rfl

@[simp] theorem fixed_askAgain (i : Fin 6) (s : State) : (askAgain i s).fixed = s.fixed := by
  unfold askAgain; dsimp only; (repeat' split) <;> simp

@[simp] theorem fixed_reexamine (s : State) : (reexamine s).fixed = s.fixed := by
  unfold reexamine
  split
  · rfl
  · dsimp only
    split
    · split <;> simp
    · simp

@[simp] theorem fixed_selectFrom (l : List (Fin 6)) (s : State) : (selectFrom l s).fixed = s.fixed := by
  induction l generalizing s with
  | nil => rfl
  | cons i l ih =>
    unfold selectFrom; dsimp only
    split
    · rw [ih]; simp
    · split
      · rw [ih]; simp
      · simp

@[simp] theorem fixed_selectStart (s : State) : (selectStart s).fixed = s.fixed := by
  unfold selectStart; split
  · rfl
  · simp

@[simp] theorem fixed_dispatch (s : State) : (dispatch s).fixed = s.fixed := by simp [dispatch]

@[simp] theorem fixed_dispatchOn (r : Bool) (s : State) : (dispatchOn r s).fixed = s.fixed := by cases r <;> simp [dispatchOn]

@[simp] theorem fixed_pdxLevel (l : Int) (s : State) : (pdxLevel l s).fixed = s.fixed := by simp [pdxLevel]

@[simp] theorem fixed_pdxCompletion (a : Accounting) (s : State) : (pdxCompletion a s).fixed = s.fixed := by
  unfold pdxCompletion; rw [fixed_dispatchOn]; rfl

@[simp] theorem fixed_pdxPosture (p : Posture) (s : State) : (pdxPosture p s).fixed = s.fixed := by
  unfold pdxPosture; rw [fixed_dispatchOn]; rfl

@[simp] theorem fixed_pdxFloat (d : Delivery) (s : State) : (pdxFloat d s).fixed = s.fixed := by
  unfold pdxFloat; dsimp only; rw [fixed_dispatchOn]; split <;> rfl

@[simp] theorem fixed_pumpGranted (i : Fin 6) (s : State) : (pumpGranted i s).fixed = s.fixed := by
  unfold pumpGranted; dsimp only
  split
  · split
    · simp
    · split <;> simp
  · rfl

@[simp] theorem fixed_pumpWithdrawn (i : Fin 6) (s : State) : (pumpWithdrawn i s).fixed = s.fixed := by
  unfold pumpWithdrawn; split
  · simp
  · rfl

@[simp] theorem fixed_pumpAuthority (i : Fin 6) (s : State) : (pumpAuthority i s).fixed = s.fixed := by
  unfold pumpAuthority; dsimp only; rw [fixed_post rfl, fixed_recomputeCAvail]; (repeat' split) <;> simp

@[simp] theorem fixed_idleRunCheck (i : Fin 6) (s : State) : (idleRunCheck i s).2.fixed = s.fixed := by
  unfold idleRunCheck; dsimp only; (repeat' split) <;> simp

@[simp] theorem fixed_runCheck (i : Fin 6) (s : State) : (runCheck i s).2.fixed = s.fixed := by
  unfold runCheck; (repeat' split) <;> simp

@[simp] theorem fixed_supervisoryStop (i : Fin 6) (s : State) : (supervisoryStop i s).fixed = s.fixed := by
  unfold supervisoryStop; split
  · simp
  · rfl

/-! ## Posture -/

@[simp] theorem fixed_changePosture (p : Posture) (c : PostureCause) (s : State) :
    (changePosture p c s).fixed = s.fixed := by
  unfold changePosture; dsimp only; rw [fixed_postUnordered rfl, fixed_emit]; rfl

@[simp] theorem fixed_evaluateWith (c : PostureCause) (s : State) : (evaluateWith c s).fixed = s.fixed := by
  unfold evaluateWith; dsimp only
  split
  · rw [fixed_changePosture]; rfl
  · split <;> rfl

@[simp] theorem fixed_evaluate (s : State) : (evaluate s).fixed = s.fixed := fixed_evaluateWith _ s

@[simp] theorem fixed_pevCompletion (a : Accounting) (s : State) : (pevCompletion a s).fixed = s.fixed := by
  unfold pevCompletion; rw [fixed_evaluate]; rfl

@[simp] theorem fixed_pevDepth (n : Fin 2) (d : Delivery) (s : State) : (pevDepth n d s).fixed = s.fixed := by
  unfold pevDepth; dsimp only; rw [fixed_evaluate]; split <;> rfl

@[simp] theorem fixed_pevFloat (d : Delivery) (s : State) : (pevFloat d s).fixed = s.fixed := by
  unfold pevFloat; dsimp only; rw [fixed_evaluate]; split <;> rfl

@[simp] theorem fixed_pevPumpCount (n : Nat) (s : State) : (pevPumpCount n s).fixed = s.fixed := by
  unfold pevPumpCount; rw [fixed_evaluate]; rfl

/-! ## Sump -/

@[simp] theorem fixed_sauPosture (p : Posture) (s : State) : (sauPosture p s).fixed = s.fixed := by
  unfold sauPosture; dsimp only; split
  · rw [fixed_emit]; rfl
  · rfl

@[simp] theorem fixed_levelDelivery (d : Delivery) (s : State) : (levelDelivery d s).fixed = s.fixed := by
  unfold levelDelivery; dsimp only; split
  · rw [fixed_post rfl]; rfl
  · rfl

@[simp] theorem fixed_flowDelivery (d : Delivery) (s : State) : (flowDelivery d s).fixed = s.fixed := by
  unfold flowDelivery; dsimp only; split <;> rfl

@[simp] theorem fixed_startPeriod (s : State) : (startPeriod s).fixed = s.fixed := rfl

/-! ## Gates -/

@[simp] theorem fixed_setGate (p : Fin 2) (f : Portal → Portal) (s : State) : (setGate p f s).fixed = s.fixed := rfl

@[simp] theorem fixed_writeStop (p : Fin 2) (s : State) : (writeStop p s).fixed = s.fixed := by
  unfold writeStop; split
  · simp
  · rfl

@[simp] theorem fixed_changeGate (p : Fin 2) (g : GateState) (c : GateCause) (s : State) :
    (changeGate p g c s).fixed = s.fixed := by
  unfold changeGate; split
  · rfl
  · rw [fixed_post rfl]; simp [emitGateState]

@[simp] theorem fixed_postEntry (op : Operation) (n : Nat) (o : OpOutcome) (d : Option Int) (s : State) :
    (postEntry op n o d s).fixed = s.fixed := by
  unfold postEntry emitReady; rw [fixed_emit]; rfl

@[simp] theorem fixed_endOpWith (p : Fin 2) (o : OpOutcome) (d : Option Int) (s : State) :
    (endOpWith p o d s).fixed = s.fixed := by
  unfold endOpWith; split
  · rfl
  · simp

@[simp] theorem fixed_endOp (p : Fin 2) (o : OpOutcome) (s : State) : (endOp p o s).fixed = s.fixed := by simp [endOp]

@[simp] theorem fixed_endOpIf (p : Fin 2) (op : Operation) (o : OpOutcome) (s : State) :
    (endOpIf p op o s).fixed = s.fixed := by
  unfold endOpIf; split
  · simp
  · rfl

@[simp] theorem fixed_reserveOp (p : Fin 2) (op : Operation) (s : State) : (reserveOp p op s).fixed = s.fixed := rfl

@[simp] theorem fixed_enterGateFault (p : Fin 2) (r : GateFault) (s : State) : (enterGateFault p r s).fixed = s.fixed := by
  simp [enterGateFault]

@[simp] theorem fixed_startHold (p : Fin 2) (s : State) : (startHold p s).fixed = s.fixed := rfl

@[simp] theorem fixed_toHeld (p : Fin 2) (c : GateCause) (s : State) : (toHeld p c s).fixed = s.fixed := by simp [toHeld]

@[simp] theorem fixed_dropWait (p : Fin 2) (s : State) : (dropWait p s).fixed = s.fixed := by
  unfold dropWait; dsimp only; split <;> simp

@[simp] theorem fixed_moveToward (p : Fin 2) (t : Goal) (c : GateCause) (s : State) :
    (moveToward p t c s).fixed = s.fixed := by simp [moveToward]

@[simp] theorem fixed_holdInstead (p : Fin 2) (c : GateCause) (s : State) : (holdInstead p c s).fixed = s.fixed := by
  unfold holdInstead; dsimp only; split <;> simp

@[simp] theorem fixed_beginMotion (p : Fin 2) (c : GateCause) (s : State) : (beginMotion p c s).fixed = s.fixed := by
  unfold beginMotion; (repeat' split) <;> simp

@[simp] theorem fixed_waitForPower (p : Fin 2) (s : State) : (waitForPower p s).fixed = s.fixed := rfl

@[simp] theorem fixed_motionStart (p : Fin 2) (c : GateCause) (s : State) : (motionStart p c s).fixed = s.fixed := by
  unfold motionStart; dsimp only; (repeat' split) <;> simp

@[simp] theorem fixed_gateGranted (p : Fin 2) (s : State) : (gateGranted p s).fixed = s.fixed := by
  unfold gateGranted; (repeat' split) <;> simp

@[simp] theorem fixed_gateWithdrawn (p : Fin 2) (s : State) : (gateWithdrawn p s).fixed = s.fixed := by
  unfold gateWithdrawn; (repeat' split) <;> simp

@[simp] theorem fixed_warnGate (p : Fin 2) (b : ClosedBy) (c : GateCause) (s : State) :
    (warnGate p b c s).fixed = s.fixed := by simp [warnGate]

@[simp] theorem fixed_closeHeld (p : Fin 2) (b : ClosedBy) (s : State) : (closeHeld p b s).fixed = s.fixed := by
  simp [closeHeld]

@[simp] theorem fixed_reverseOpening (p : Fin 2) (b : ClosedBy) (c : GateCause) (s : State) :
    (reverseOpening p b c s).fixed = s.fixed := by simp [reverseOpening]

@[simp] theorem fixed_closeForPosture (p : Fin 2) (s : State) : (closeForPosture p s).fixed = s.fixed := by
  unfold closeForPosture; dsimp only; (repeat' split) <;> simp

@[simp] theorem fixed_closeIfClosed (p : Fin 2) (s : State) : (closeIfClosed p s).fixed = s.fixed := by
  unfold closeIfClosed; split <;> simp

@[simp] theorem fixed_openFromWarning (p : Fin 2) (c : GateCause) (s : State) :
    (openFromWarning p c s).fixed = s.fixed := by simp [openFromWarning]

@[simp] theorem fixed_openFromClosing (p : Fin 2) (c : GateCause) (s : State) :
    (openFromClosing p c s).fixed = s.fixed := by
  unfold openFromClosing; dsimp only; rw [fixed_changeGate]; split <;> simp

@[simp] theorem fixed_openFromStill (p : Fin 2) (c : GateCause) (s : State) :
    (openFromStill p c s).fixed = s.fixed := by simp [openFromStill]

@[simp] theorem fixed_openForReopen (p : Fin 2) (s : State) : (openForReopen p s).fixed = s.fixed := by
  unfold openForReopen; dsimp only; (repeat' split) <;> simp

@[simp] theorem fixed_psqPosture (p : Posture) (c : PostureCause) (s : State) : (psqPosture p c s).fixed = s.fixed := by
  unfold psqPosture; dsimp only
  split
  · rw [fixed_foldl _ (fun s p => fixed_closeForPosture p s)]; rfl
  · split
    · rw [fixed_foldl _ (fun s p => fixed_openForReopen p s)]; rfl
    · rfl

@[simp] theorem fixed_takePosition (p : Fin 2) (v : Int) (s : State) : (takePosition p v s).fixed = s.fixed := rfl

@[simp] theorem fixed_reachOpen (p : Fin 2) (op : Operation) (s : State) : (reachOpen p op s).fixed = s.fixed := by
  simp [reachOpen]

@[simp] theorem fixed_reachClosed (p : Fin 2) (s : State) : (reachClosed p s).fixed = s.fixed := by simp [reachClosed]

@[simp] theorem fixed_losePosition (p : Fin 2) (s : State) : (losePosition p s).fixed = s.fixed := by simp [losePosition]

@[simp] theorem fixed_adoptGate (p : Fin 2) (v : Int) (f : Half) (s : State) : (adoptGate p v f s).fixed = s.fixed := by
  unfold adoptGate; dsimp only; (repeat' split) <;> simp

@[simp] theorem fixed_homingReport (p : Fin 2) (v : Int) (f : Half) (s : State) :
    (homingReport p v f s).fixed = s.fixed := by
  unfold homingReport; dsimp only; (repeat' split) <;> simp

@[simp] theorem fixed_keepProgress (p : Fin 2) (b : Option Int) (v : Int) (s : State) :
    (keepProgress p b v s).fixed = s.fixed := rfl

@[simp] theorem fixed_heldAtLimit (p : Fin 2) (s : State) : (heldAtLimit p s).fixed = s.fixed := by
  unfold heldAtLimit; dsimp only; split <;> simp

@[simp] theorem fixed_positionedReport (p : Fin 2) (b : Option Int) (v : Int) (f : Half) (s : State) :
    (positionedReport p b v f s).fixed = s.fixed := by
  unfold positionedReport; (repeat' split) <;> simp

@[simp] theorem fixed_releaseKept (p : Fin 2) (f : Half) (s : State) : (releaseKept p f s).fixed = s.fixed := by
  unfold releaseKept; split <;> simp

@[simp] theorem fixed_driveReportByState (p : Fin 2) (v : Int) (f : Half) (s : State) :
    (driveReportByState p v f s).fixed = s.fixed := by
  unfold driveReportByState; (repeat' split) <;> simp

@[simp] theorem fixed_driveReport (p : Fin 2) (v : Int) (f : Half) (s : State) : (driveReport p v f s).fixed = s.fixed := by
  unfold driveReport; dsimp only; split <;> simp

@[simp] theorem fixed_driveFreshness (p : Fin 2) (f : Freshness) (s : State) :
    (driveFreshness p f s).fixed = s.fixed := by
  unfold driveFreshness; dsimp only; (repeat' split) <;> simp

@[simp] theorem fixed_driveDelivery (p : Fin 2) (d : Delivery) (s : State) : (driveDelivery p d s).fixed = s.fixed := by
  unfold driveDelivery; dsimp only; (repeat' split) <;> simp

@[simp] theorem fixed_sweepOccupied (p : Fin 2) (s : State) : (sweepOccupied p s).fixed = s.fixed := by
  unfold sweepOccupied; (repeat' split) <;> simp

@[simp] theorem fixed_sweepClear (p : Fin 2) (s : State) : (sweepClear p s).fixed = s.fixed := by
  unfold sweepClear; split <;> rfl

@[simp] theorem fixed_recomputePresence (p : Fin 2) (s : State) : (recomputePresence p s).fixed = s.fixed := by
  unfold recomputePresence; dsimp only; (repeat' split) <;> simp

@[simp] theorem fixed_recomputeReadings (s : State) : (recomputeReadings s).fixed = s.fixed :=
  fixed_foldl _ (fun s p => fixed_recomputePresence p s) _ s

@[simp] theorem fixed_presenceDelivery (p : Fin 2) (d : Delivery) (s : State) :
    (presenceDelivery p d s).fixed = s.fixed := by simp [presenceDelivery]

/-! ## Lighting -/

@[simp] theorem fixed_setZone (z : Fin 8) (f : Zone → Zone) (s : State) : (setZone z f s).fixed = s.fixed := rfl

@[simp] theorem fixed_handClaim (o : Owner) (n : Nat) (s : State) : (handClaim o n s).fixed = s.fixed := by
  unfold handClaim; split <;> simp

@[simp] theorem fixed_handFloor (z : Fin 8) (l : Nat) (s : State) : (handFloor z l s).fixed = s.fixed := by
  unfold handFloor; split <;> simp

@[simp] theorem fixed_handUpper (z : Fin 8) (l : Nat) (s : State) : (handUpper z l s).fixed = s.fixed := by
  unfold handUpper; split <;> simp

@[simp] theorem fixed_matchClaims (z : Fin 8) (a b : Nat) (s : State) : (matchClaims z a b s).fixed = s.fixed := by
  unfold matchClaims; split <;> simp

@[simp] theorem fixed_computeOutput (z : Fin 8) (s : State) : (computeOutput z s).fixed = s.fixed := rfl

@[simp] theorem fixed_keepOutput (z : Fin 8) (src : SlotSource) (s : State) : (keepOutput z src s).fixed = s.fixed := by
  unfold keepOutput; dsimp only; split
  · split <;> simp
  · simp

@[simp] theorem fixed_litZone (z : Fin 8) (s : State) : (litZone z s).fixed = s.fixed := by
  unfold litZone; dsimp only; split <;> simp

@[simp] theorem fixed_reevaluate (z : Fin 8) (s : State) : (reevaluate z s).fixed = s.fixed := by
  unfold reevaluate; (repeat' split) <;> simp

@[simp] theorem fixed_clearTest (z : Fin 8) (s : State) : (clearTest z s).fixed = s.fixed := rfl

@[simp] theorem fixed_endTest (z : Fin 8) (o : OpOutcome) (d : Option Int) (s : State) :
    (endTest z o d s).fixed = s.fixed := by simp [endTest]

@[simp] theorem fixed_releaseWaiting (o : Owner) (before s : State) : (releaseWaiting o before s).fixed = s.fixed := by
  unfold releaseWaiting; split <;> simp

@[simp] theorem fixed_lowerSupervised (z : Fin 8) (u : Bool) (s : State) : (lowerSupervised z u s).fixed = s.fixed := by
  simp only [lowerSupervised]; split <;> split <;> simp

@[simp] theorem fixed_fallBack (z : Fin 8) (u : Bool) (s : State) : (fallBack z u s).fixed = s.fixed := by
  simp [fallBack]

@[simp] theorem fixed_lowerEngine (z : Fin 8) (u : Bool) (s : State) : (lowerEngine z u s).fixed = s.fixed := by
  unfold lowerEngine; split <;> simp

@[simp] theorem fixed_handAtOnce (o : Owner) (n : Nat) (s : State) : (handAtOnce o n s).fixed = s.fixed := by
  unfold handAtOnce; split <;> simp

@[simp] theorem fixed_rematchSupervised (z : Fin 8) (s : State) : (rematchSupervised z s).fixed = s.fixed := by
  unfold rematchSupervised; dsimp only; (repeat' split) <;> simp

@[simp] theorem fixed_rematch (z : Fin 8) (s : State) : (rematch z s).fixed = s.fixed := by
  unfold rematch; (repeat' split) <;> simp

@[simp] theorem fixed_zoneGranted (z : Fin 8) (u : Bool) (s : State) : (zoneGranted z u s).fixed = s.fixed := by
  unfold zoneGranted; split <;> simp

@[simp] theorem fixed_zoneWithdrawn (z : Fin 8) (u : Bool) (s : State) : (zoneWithdrawn z u s).fixed = s.fixed := by
  unfold zoneWithdrawn; dsimp only; (repeat' split) <;> simp

@[simp] theorem fixed_giveZone (z : Fin 8) (s : State) : (giveZone z s).fixed = s.fixed := by
  unfold giveZone; dsimp only; (repeat' split) <;> simp

@[simp] theorem fixed_zoneAuthority (z : Fin 8) (s : State) : (zoneAuthority z s).fixed = s.fixed := by
  unfold zoneAuthority; split <;> simp

@[simp] theorem fixed_meetClaim (o : Owner) (n : Nat) (s : State) : (meetClaim o n s).2.fixed = s.fixed := by
  unfold meetClaim; split <;> simp

@[simp] theorem fixed_carryZone (z : Fin 8) (v : Nat) (s : State) : (carryZone z v s).2.fixed = s.fixed := by
  unfold carryZone; dsimp only; (repeat' split) <;> simp

@[simp] theorem fixed_zoneCheck (z : Fin 8) (v : Nat) (s : State) : (zoneCheck z v s).2.fixed = s.fixed := by
  unfold zoneCheck; dsimp only; split <;> simp

@[simp] theorem fixed_postZones (s : State) : (postZones s).fixed = s.fixed := fixed_postAll (by simp [Task.internal]) s

@[simp] theorem fixed_takeLuminance (v : Int) (s : State) : (takeLuminance v s).fixed = s.fixed := by
  unfold takeLuminance; dsimp only; split
  · rfl
  · rw [fixed_postZones, fixed_emit]; rfl

@[simp] theorem fixed_luminanceDelivery (d : Delivery) (s : State) : (luminanceDelivery d s).fixed = s.fixed := by
  unfold luminanceDelivery; dsimp only; split
  · rw [fixed_takeLuminance]; rfl
  · rfl

@[simp] theorem fixed_keepAspects (p : Fin 2) (s : State) : (keepAspects p s).fixed = s.fixed := by simp [keepAspects]

@[simp] theorem fixed_keepAllAspects (s : State) : (keepAllAspects s).fixed = s.fixed :=
  fixed_foldl _ (fun s p => fixed_keepAspects p s) _ s

@[simp] theorem fixed_gateTold (p : Fin 2) (g : GateState) (s : State) : (gateTold p g s).fixed = s.fixed := by
  unfold gateTold; rw [fixed_keepAllAspects]; rfl

@[simp] theorem fixed_lsePosture (p : Posture) (s : State) : (lsePosture p s).fixed = s.fixed := by
  unfold lsePosture; rw [fixed_postZones, fixed_keepAllAspects]; rfl

@[simp] theorem fixed_takeZone (z : Fin 8) (s : State) : (takeZone z s).fixed = s.fixed := by
  unfold takeZone; split <;> simp

@[simp] theorem fixed_emitLampFault (z : Fin 8) (p : Int) (b : Bool) (s : State) :
    (emitLampFault z p b s).fixed = s.fixed := fixed_emit _ _ _ _ _ _

@[simp] theorem fixed_judgeSample (z : Fin 8) (l : Bool) (p : Int) (s : State) : (judgeSample z l p s).fixed = s.fixed := by
  unfold judgeSample; dsimp only; (repeat' split) <;> simp

@[simp] theorem fixed_measure (z : Fin 8) (c e : Int) (s : State) : (measure z c e s).fixed = s.fixed := by
  unfold measure; split <;> rfl

@[simp] theorem fixed_lampSample (z : Fin 8) (c : Int) (s : State) : (lampSample z c s).fixed = s.fixed := by
  unfold lampSample; dsimp only; (repeat' split) <;> simp

@[simp] theorem fixed_lampFreshness (z : Fin 8) (f : Freshness) (s : State) : (lampFreshness z f s).fixed = s.fixed := by
  unfold lampFreshness; dsimp only; split <;> simp

@[simp] theorem fixed_lampDelivery (z : Fin 8) (d : Delivery) (s : State) : (lampDelivery z d s).fixed = s.fixed := by
  unfold lampDelivery; dsimp only; (repeat' split) <;> simp

/-! ## The Command Filter -/

@[simp] theorem fixed_deriveAuthorities (s : State) : (deriveAuthorities s).fixed = s.fixed := by
  simp only [deriveAuthorities, State.fixed]

@[simp] theorem fixed_recomputeAuthority (s : State) : (recomputeAuthority s).fixed = s.fixed := by
  unfold recomputeAuthority; dsimp only; rw [fixed_postAll (by simp [Task.internal]), fixed_deriveAuthorities]

@[simp] theorem fixed_authorityTold (k : Fin 20) (s : State) : (authorityTold k s).fixed = s.fixed := by
  unfold authorityTold; split <;> simp

@[simp] theorem fixed_recordNodes (s : State) : (recordNodes s).fixed = s.fixed := by
  simp only [recordNodes, State.fixed]

@[simp] theorem fixed_refuse (k : Fin 20) (r : Reason) (v : Int) (src : SlotSource) (n : Nat) (s : State) :
    (refuse k r v src n s).fixed = s.fixed := fixed_post rfl s

@[simp] theorem fixed_clampedEvent (k : Fin 20) (r : Reason) (a b : Int) (src : SlotSource) (n : Nat) (s : State) :
    (clampedEvent k r a b src n s).fixed = s.fixed := fixed_post rfl s

@[simp] theorem fixed_drivePump (k : Fin 20) (i : Fin 6) (src : SlotSource) (a b : Int) (n : Option Nat) (s : State) :
    (drivePump k i src a b n s).fixed = s.fixed := by
  unfold drivePump; dsimp only; (repeat' split) <;> simp

@[simp] theorem fixed_driveZone (k : Fin 20) (z : Fin 8) (src : SlotSource) (a b : Int) (n : Option Nat) (s : State) :
    (driveZone k z src a b n s).fixed = s.fixed := by
  unfold driveZone; dsimp only; (repeat' split) <;> simp

@[simp] theorem fixed_driveSlot (k : Fin 20) (src : SlotSource) (a b : Int) (n : Option Nat) (s : State) :
    (driveSlot k src a b n s).fixed = s.fixed := by
  unfold driveSlot; split <;> simp

@[simp] theorem fixed_judge (k : Fin 20) (v : Int) (s : State) : (judge k v s).fixed = s.fixed := by
  unfold judge; (repeat' split) <;> simp

@[simp] theorem fixed_takeCommand (c : Cell) (s : State) : (takeCommand c s).fixed = s.fixed := by
  unfold takeCommand; (repeat' split) <;> simp

@[simp] theorem fixed_reapplySlot (k : Fin 20) (s : State) : (reapplySlot k s).fixed = s.fixed := by
  unfold reapplySlot; (repeat' split) <;> simp

@[simp] theorem fixed_postReapply (s : State) : (postReapply s).fixed = s.fixed := fixed_postAll (by simp [Task.internal]) s

@[simp] theorem fixed_cflPosture (p : Posture) (s : State) : (cflPosture p s).fixed = s.fixed := by
  unfold cflPosture; rw [fixed_postReapply, fixed_recomputeAuthority]; rfl

@[simp] theorem fixed_cflTier (t : Tier) (s : State) : (cflTier t s).fixed = s.fixed := by
  unfold cflTier; rw [fixed_postReapply]; rfl

@[simp] theorem fixed_fallbackSlot (k : Fin 20) (s : State) : (fallbackSlot k s).fixed = s.fixed := by
  unfold fallbackSlot; (repeat' split) <;> simp

@[simp] theorem fixed_reportFailedTables (s : State) : (reportFailedTables s).fixed = s.fixed := by
  unfold reportFailedTables; exact fixed_foldl _ (fun s t => fixed_emit _ _ _ _ _ s) _ s

/-! ## Replies, the flush and the tasks -/

@[simp] theorem fixed_flushOnLoss (s : State) : (flushOnLoss s).fixed = s.fixed := by
  unfold flushOnLoss; split <;> rfl

@[simp] theorem fixed_countReply (st : Status) (s : State) : (countReply st s).fixed = s.fixed := by
  unfold countReply; split <;> rfl

@[simp] theorem fixed_placeReply (n i : Nat) (a : Answer) (s : State) : (placeReply n i a s).fixed = s.fixed := by
  unfold placeReply; rw [fixed_offer, fixed_countReply]; rfl

@[simp] theorem fixed_takeDelivery (a : Assignment) (d : Delivery) (s : State) : (takeDelivery a d s).fixed = s.fixed := by
  unfold takeDelivery; split <;> simp

@[simp] theorem fixed_takePosture (r : Receiver) (p : Posture) (c : PostureCause) (s : State) :
    (takePosture r p c s).fixed = s.fixed := by
  unfold takePosture; split <;> simp

@[simp] theorem fixed_takeClaim (o : Owner) (g : Bool) (s : State) : (takeClaim o g s).fixed = s.fixed := by
  unfold takeClaim; split
  · rfl
  · split <;> simp
  · split <;> simp
  · rw [fixed_post rfl]; split <;> simp
  · split <;> simp

/-- An internal announcement keeps the fixed part. -/
theorem fixed_runTask {t : Task} (h : t.internal) (s : State) : (runTask t s).fixed = s.fixed := by
  cases t <;> simp_all [runTask, Task.internal]

/-- A cut list is the list, its back holds none of those meant, and its front ends with one. -/
theorem cutBehind_spec (p : Task → Bool) (l : List Task) :
    (cutBehind p l).1 ++ (cutBehind p l).2 = l ∧ (∀ u ∈ (cutBehind p l).2, p u = false) ∧
      ∀ u ∈ (cutBehind p l).1.getLast?, p u = true := by
  induction l with
  | nil => simp [cutBehind]
  | cons t ts ih =>
    unfold cutBehind
    split
    · rename_i h
      obtain ⟨ha, hb, hc⟩ := ih
      refine ⟨by simp [ha], hb, ?_⟩
      have hn : (cutBehind p ts).1 ≠ [] := by
        intro hn
        rw [hn, List.nil_append] at ha
        obtain ⟨u, hu, hp⟩ := List.any_eq_true.mp h
        rw [← ha] at hu
        rw [hb u hu] at hp
        cases hp
      rwa [List.getLast?_cons_of_ne_nil hn]
    · split <;> simp_all

/-- The order of announcements changes no announcement. -/
theorem putAhead_all (p : Task → Bool) (new rest : List Task) :
    (putAhead new rest).all p = (new.all p && rest.all p) := by
  induction new generalizing rest with
  | nil => simp [putAhead]
  | cons t ts ih =>
    conv_rhs => rw [← (cutBehind_spec t.behind rest).1]
    simp only [putAhead, List.all_append, List.all_cons, ih]
    ac_rfl

theorem fixed_agenda (l : List Task) (s : State) :
    ({ s with agenda := l } : State).fixed = { s.fixed with quiet := l.all Task.internal } := rfl

/-- With no REQUEST waiting, taking announcements keeps the fixed part. -/
theorem fixed_drain (n : Nat) (s : State) (h : s.agenda.all Task.internal) : (drain n s).fixed = s.fixed := by
  induction n generalizing s with
  | zero => rfl
  | succ n ih =>
    unfold drain
    split
    · rfl
    · rename_i t rest ha
      rw [ha] at h
      simp only [List.all_cons, Bool.and_eq_true] at h
      have hu := fixed_runTask h.1 { s with agenda := [] }
      have hq : (runTask t { s with agenda := [] }).agenda.all Task.internal = true := by
        have := congrArg Fixed.quiet hu
        simpa [State.fixed] using this
      dsimp only
      rw [ih _ (by simp [putAhead_all, hq, h.2]), fixed_agenda, hu, fixed_agenda, putAhead_all, hq, h.2]
      have hs : s.fixed.quiet = true := by simp [State.fixed, ha, h.1, h.2]
      cases hf : s.fixed
      rw [hf] at hs
      simp_all

/-- With no REQUEST waiting, a handling's announcements keep the fixed part. -/
theorem fixed_settle (s : State) (h : s.agenda.all Task.internal) : (settle s).fixed = s.fixed := fixed_drain _ s h

end Sys2Proof.Machine
end

