-- ==== Sys2Proof/Laws/Ops.lean ====
section
/-! SUPPORT. What each shared operation can do, said once: the queues, the announcements, the slots of the image and the claim
list. A later proof cites these and unfolds none of the operations. -/

namespace Sys2Proof.Machine

/-! ## Queues -/

/-- An offer ends in one of two ways (R144). -/
theorem offer_cases (k : EntryKind) (c : Cell) (s : State) :
    (s.lif.queue.length + k.needs ≤ 24 ∧
      offer k c s = { s with lif.queue := s.lif.queue ++ [{ kind := k, cell := c }] }) ∨
    (24 < s.lif.queue.length + k.needs ∧ offer k c s = dropEntry k s) := by
  unfold offer
  split
  · exact .inl ⟨‹_›, rfl⟩
  · exact .inr ⟨by omega, rfl⟩

/-- An event is at the tail, or is counted as dropped with the events-lost flag set (R144). -/
theorem emit_cases (e : Event) (i : Nat) (v : Int) (hi lo : Nat) (s : State) :
    (s.lif.queue.length + 2 ≤ 24 ∧ emit e i v hi lo s =
      { s with lif.queue := s.lif.queue ++ [{ kind := .event, cell := eventCell s e i v hi lo }] }) ∨
    (24 < s.lif.queue.length + 2 ∧ emit e i v hi lo s =
      { s with lif.eventDrops := bump s.lif.eventDrops, lif.eventsLost := true }) :=
  offer_cases .event _ s

/-- A pass-through offer ends in one of two ways (R146). -/
theorem offerPassThrough_cases (c : Cell) (s : State) :
    (s.lif.fifo.length < 8 ∧ offerPassThrough c s = { s with lif.fifo := s.lif.fifo ++ [c] }) ∨
    (8 ≤ s.lif.fifo.length ∧ offerPassThrough c s = { s with lif.passDrops := bump s.lif.passDrops }) := by
  unfold offerPassThrough
  split
  · exact .inl ⟨‹_›, rfl⟩
  · exact .inr ⟨by omega, rfl⟩

/-- A saturating counter stays within sixteen bits. -/
theorem bump_le (n : Nat) : bump n ≤ 65535 := by unfold bump; split <;> omega

/-! ## Timers -/

/-- An expiry may be taken of a running timer with no seconds left, and of no other (log 6). -/
@[simp] theorem expired_iff (t : Option Nat) : expired t = true ↔ t = some 0 := by simp [expired]

/-! ## Announcements -/

theorem insertAt_perm {α : Type} (n : Nat) (x : α) (l : List α) : (insertAt n x l).Perm (x :: l) := by
  induction n generalizing l with
  | zero => exact List.Perm.refl _
  | succ n ih =>
    cases l with
    | nil => exact List.Perm.refl _
    | cons y ys => exact ((ih ys).cons y).trans (List.Perm.swap x y ys)

theorem permute_perm {α : Type} (n : Nat) (l : List α) : (permute n l).Perm l := by
  induction l generalizing n with
  | nil => exact List.Perm.refl _
  | cons x xs ih => exact (insertAt_perm _ x _).trans ((ih _).cons x)

/-- Announcements without an order between them are posted in some order (log 3). -/
theorem postUnordered_cases (ts : List Task) (s : State) :
    ∃ (told : List Task) (tape : List Nat), told.Perm ts ∧
      postUnordered ts s = { s with agenda := s.agenda ++ told, choices := tape } := by
  unfold postUnordered
  split
  · exact ⟨_, _, permute_perm _ _, rfl⟩
  · exact ⟨_, s.choices, List.Perm.refl _, rfl⟩

/-! ## The output image -/

/-- A write to an installed slot (R152). -/
theorem writeSlot_installed (k : Fin 20) (v : Int) (src : SlotSource) (s : State) (h : slotInstalled k s = true) :
    writeSlot k v src s = { s with cfl.slots := upd s.cfl.slots k fun e =>
      { e with target := some v, pending := true, source := some src, cls := some (slotClass k v) } } :=
  if_pos h

/-- An uninstalled slot takes no write (R151). -/
theorem writeSlot_uninstalled (k : Fin 20) (v : Int) (src : SlotSource) (s : State) (h : slotInstalled k s = false) :
    writeSlot k v src s = s :=
  if_neg (by simp [h])

/-- A write touches one slot. -/
theorem writeSlot_other (k j : Fin 20) (v : Int) (src : SlotSource) (s : State) (h : k ≠ j) :
    (writeSlot k v src s).cfl.slots[j] = s.cfl.slots[j] := by
  unfold writeSlot
  split
  · exact upd_other _ k j _ h
  · rfl

/-- A slot keeps its node, channel and effective authority over a write. -/
theorem writeSlot_routing (k j : Fin 20) (v : Int) (src : SlotSource) (s : State) :
    (writeSlot k v src s).cfl.slots[j].node = s.cfl.slots[j].node ∧
    (writeSlot k v src s).cfl.slots[j].channel = s.cfl.slots[j].channel ∧
    (writeSlot k v src s).cfl.slots[j].effective = s.cfl.slots[j].effective := by
  by_cases h : k = j
  · subst h
    unfold writeSlot
    split
    · have e := upd_same s.cfl.slots k fun e =>
        { e with target := some v, pending := true, source := some src, cls := some (slotClass k v) }
      exact ⟨(congrArg Slot.node e).trans rfl, (congrArg Slot.channel e).trans rfl, (congrArg Slot.effective e).trans rfl⟩
    · exact ⟨rfl, rfl, rfl⟩
  · rw [writeSlot_other k j v src s h]
    exact ⟨rfl, rfl, rfl⟩

/-- An engine writes where the part has authority, and nowhere else (R155). -/
theorem engineWrite_cases (k : Fin 20) (v : Int) (s : State) :
    (partHas k s = true ∧ engineWrite k v s = writeSlot k v .engine s) ∨ (partHas k s = false ∧ engineWrite k v s = s) := by
  unfold engineWrite partHas
  split
  · exact .inl ⟨decide_eq_true ‹_›, rfl⟩
  · exact .inr ⟨decide_eq_false ‹_›, rfl⟩

/-- A kept value is written only where it differs (R152). -/
theorem engineKeep_cases (k : Fin 20) (v : Int) (s : State) :
    (s.cfl.slots[k].target = some v ∧ engineKeep k v s = s) ∨
    (s.cfl.slots[k].target ≠ some v ∧ engineKeep k v s = engineWrite k v s) := by
  unfold engineKeep
  split
  · exact .inl ⟨‹_›, rfl⟩
  · exact .inr ⟨‹_›, rfl⟩

/-! ## The claim list -/

theorem foldl_emitShed_lda (l : List Claim) (s : State) : (l.foldl (fun t c => emitShed c t) s).lda = s.lda := by
  induction l generalizing s with
  | nil => rfl
  | cons c l ih => exact (ih _).trans (by simp)

/-- The claims a walk leaves (R71, R72). -/
theorem walk_claims (o : Option Owner) (s : State) : (walk o s).lda.claims = walked s s.lda.claims := by
  unfold walk
  simp only [recomputeCAvail_lda_claims, postAll_lda, foldl_emitShed_lda]
  rfl

/-- An ask at once makes the whole walk or none of it (R74). -/
theorem askAtOnce_cases (o : Owner) (amount : Nat) (s : State) :
    askAtOnce o amount s = (true, askWaiting o amount s) ∨ askAtOnce o amount s = (false, s) := by
  unfold askAtOnce
  split
  · exact .inl rfl
  · exact .inr rfl

/-- A claim handed at once gets its new amount where it is held, and is else asked for at once (R104, R111). -/
theorem handAtOnce_cases (o : Owner) (amount : Nat) (s : State) :
    (holdsClaim o s = true ∧ handAtOnce o amount s = handClaim o amount s) ∨
    (holdsClaim o s = false ∧ handAtOnce o amount s = (askAtOnce o amount s).2) := by
  unfold handAtOnce
  split
  · exact .inl ⟨‹_›, rfl⟩
  · exact .inr ⟨Bool.eq_false_iff.mpr ‹¬ _›, rfl⟩

/-- A release of a claim that is not held does nothing (R76). -/
theorem release_none (o : Owner) (s : State) (h : holdsClaim o s = false) : release o s = s := if_neg (by simp [h])

/-! ## Corners of the owners -/

/-- A withdrawal never lights a zone (R109): the part it leaves gives no more than the level, and no more than the floor where the
upper is needed. -/
theorem withdrawnPart_le (r : Zone) (upper : Bool) (floor : Nat) :
    outputLevel (withdrawnPart r upper floor) r.desired floor ≤ min r.desired floor := by
  unfold withdrawnPart
  split
  · simp_all [outputLevel]
  · split
    · simp [outputLevel]
    · split
      · simp [outputLevel]
      · simp only [outputLevel]; omega

/-- A gate that waits for power holds no claim once its wait is dropped, granted meanwhile or not (R90). -/
theorem dropWait_waiting (p : Fin 2) (s : State) (h : s.psq.portals[p].powerWait = true) :
    dropWait p s = release (.gate p) (setGate p (fun g => { g with powerWait := false }) s) := by
  unfold dropWait
  exact if_neg (by rw [h]; simp)

/-- A zone is told of every grant of its claims, whoever asks (R72, R108). -/
theorem toldClaims_grant (asker : Option Owner) (changed : List Claim) (c : Claim) (h : c ∈ changed)
    (hg : c.granted = true) (hz : c.owner.ofZone = true) : c ∈ toldClaims asker changed := by
  unfold toldClaims
  exact List.mem_filter.mpr ⟨h, by simp [hg, hz]⟩

/-! ## The reset held (R189) -/

/-- REQUESTED_RESET does what the completion of RESET PART's REPLY does, and before it nothing (log 12). -/
theorem requestedReset_cases (s : State) :
    (resetDue s = true ∧ requestedReset s = portAComplete s ∧ portAComplete s = resetAndLeave .requested s) ∨
    (resetDue s = false ∧ requestedReset s = s ∧ portAComplete s = portASent s) := by
  unfold requestedReset portAComplete
  cases h : resetDue s <;> simp

end Sys2Proof.Machine
end

