-- ==== Sys2Proof/WellFormed.lean ====
section
/-! DEFINITION. The checks a command must pass to name something the part has (00_scope.md, "Numbering of devices"; R119;
R177; R190). A command that fails one still has a meaning: it finds no such timer, and changes nothing. -/

namespace Sys2Proof

/-- A pump is numbered 0-5. -/
def pumpNumberOk (n : Nat) : Bool := n ≤ 5

/-- A portal is numbered 1 or 2. -/
def portalNumberOk (n : Nat) : Bool := 1 ≤ n && n ≤ 2

/-- A zone is numbered 1-8. -/
def zoneNumberOk (n : Nat) : Bool := 1 ≤ n && n ≤ 8

/-- A field node has an address 1-59 (R119). -/
def nodeAddressOk (n : Nat) : Bool := 1 ≤ n && n ≤ 59

/-- The generic WRITE_FIELD row is for tables without a write row of their own: none of tables 1-12 (R198). -/
def genericTableOk (t : Byte) : Bool := !(1 ≤ t.toNat && t.toNat ≤ 12)

/-- The cell of a SUPERVISORY_COMMAND is a COMMAND (R158, R190). -/
def commandCellOk (c : Cell) : Bool := c.kind == 3

/-- The well-formed commands. -/
def Instr.wellFormed : Instr → Bool
  | .supervisoryCommand c => commandCellOk c
  | .writeField t _ _ _ => genericTableOk t
  | .spinUpExpiry n => pumpNumberOk n
  | .stopConfirmExpiry n => pumpNumberOk n
  | .minimumRunExpiry n => pumpNumberOk n
  | .restExpiry n => pumpNumberOk n
  | .limitTimerExpiry n => pumpNumberOk n
  | .warningExpiry n => portalNumberOk n
  | .clearTimerExpiry n => portalNumberOk n
  | .holdLongExpiry n => portalNumberOk n
  | .progressTimerExpiry n => portalNumberOk n
  | .homingTimerExpiry n => portalNumberOk n
  | .steadyTimerExpiry n => zoneNumberOk n
  | .lampTestTimerExpiry n => zoneNumberOk n
  | .staleTimerExpiry n => nodeAddressOk n
  | .portAArrival _ => true
  | .portBArrival _ => true
  | .status _ _ => true
  | .readEstimates _ _ => true
  | .readLoad _ _ => true
  | .readField _ _ _ => true
  | .writeFieldSite _ _ _ => true
  | .writeFieldStageTable _ _ _ => true
  | .writeFieldPostureThresholds _ _ _ => true
  | .writeFieldNodeTable _ _ _ => true
  | .writeFieldPumpTable _ _ _ => true
  | .writeFieldLevelLadder _ _ _ => true
  | .writeFieldLoadLimits _ _ _ => true
  | .writeFieldPortalTable _ _ _ => true
  | .writeFieldZoneTable _ _ _ => true
  | .writeFieldSceneTable _ _ _ => true
  | .writeFieldAuthorityTable _ _ _ => true
  | .writeFieldRuleTable _ _ _ => true
  | .readCounters _ _ => true
  | .openEdit _ => true
  | .closeEdit _ => true
  | .abandonEdit _ => true
  | .senseCompletion _ => true
  | .homeGate _ => true
  | .moveGateOpen _ => true
  | .moveGateClose _ => true
  | .lampTest _ => true
  | .reopen _ => true
  | .closeRoadway _ => true
  | .lockPump _ => true
  | .unlockPump _ => true
  | .clearFault _ => true
  | .rotate _ => true
  | .clearUnknown _ => true
  | .programIdentity _ _ _ => true
  | .readIdentity _ _ => true
  | .resetPart _ => true
  | .powerUpReset _ => true
  | .supplyReset => true
  | .requestedReset => true
  | .accountingPeriodExpiry => true
  | .descentTimerExpiry => true
  | .supervisionTimerExpiry => true
  | .portATransmitComplete => true
  | .portBTransmitComplete => true
  | .supplyReturn => true

end Sys2Proof
end

