-- ==== Sys2Proof/Laws/PerInstr.lean ====
section
/-! SUPPORT. One lemma for each command: the kinds of a command. -/

namespace Sys2Proof.Laws

open Sys2Proof Sys2Proof.Machine

/-- A command that may reset the part is well formed, and is no request (R188, R189): a request only holds a reset. -/
def Kind.Statement (i : Instr) : Prop := mayReset i = true → i.wellFormed = true ∧ isRequest i = false

theorem Kind.portAArrival (c : Cell) : Kind.Statement (.portAArrival c) :=
  fun h => absurd h Bool.false_ne_true
theorem Kind.portBArrival (c : Cell) : Kind.Statement (.portBArrival c) :=
  fun h => absurd h Bool.false_ne_true
theorem Kind.supervisoryCommand (c : Cell) : Kind.Statement (.supervisoryCommand c) :=
  fun h => absurd h Bool.false_ne_true
theorem Kind.status (page index : Byte) : Kind.Statement (.status page index) :=
  fun h => absurd h Bool.false_ne_true
theorem Kind.readEstimates (field index : Byte) : Kind.Statement (.readEstimates field index) :=
  fun h => absurd h Bool.false_ne_true
theorem Kind.readLoad (field index : Byte) : Kind.Statement (.readLoad field index) :=
  fun h => absurd h Bool.false_ne_true
theorem Kind.readField (table field index : Byte) : Kind.Statement (.readField table field index) :=
  fun h => absurd h Bool.false_ne_true
theorem Kind.writeField (table field index : Byte) (value : Word) : Kind.Statement (.writeField table field index value) :=
  fun h => absurd h Bool.false_ne_true
theorem Kind.writeFieldSite (field index : Byte) (value : Word) : Kind.Statement (.writeFieldSite field index value) :=
  fun h => absurd h Bool.false_ne_true
theorem Kind.writeFieldStageTable (field index : Byte) (value : Word) : Kind.Statement (.writeFieldStageTable field index value) :=
  fun h => absurd h Bool.false_ne_true
theorem Kind.writeFieldPostureThresholds (field index : Byte) (value : Word) : Kind.Statement (.writeFieldPostureThresholds field index value) :=
  fun h => absurd h Bool.false_ne_true
theorem Kind.writeFieldNodeTable (field index : Byte) (value : Word) : Kind.Statement (.writeFieldNodeTable field index value) :=
  fun h => absurd h Bool.false_ne_true
theorem Kind.writeFieldPumpTable (field index : Byte) (value : Word) : Kind.Statement (.writeFieldPumpTable field index value) :=
  fun h => absurd h Bool.false_ne_true
theorem Kind.writeFieldLevelLadder (field index : Byte) (value : Word) : Kind.Statement (.writeFieldLevelLadder field index value) :=
  fun h => absurd h Bool.false_ne_true
theorem Kind.writeFieldLoadLimits (field index : Byte) (value : Word) : Kind.Statement (.writeFieldLoadLimits field index value) :=
  fun h => absurd h Bool.false_ne_true
theorem Kind.writeFieldPortalTable (field index : Byte) (value : Word) : Kind.Statement (.writeFieldPortalTable field index value) :=
  fun h => absurd h Bool.false_ne_true
theorem Kind.writeFieldZoneTable (field index : Byte) (value : Word) : Kind.Statement (.writeFieldZoneTable field index value) :=
  fun h => absurd h Bool.false_ne_true
theorem Kind.writeFieldSceneTable (field index : Byte) (value : Word) : Kind.Statement (.writeFieldSceneTable field index value) :=
  fun h => absurd h Bool.false_ne_true
theorem Kind.writeFieldAuthorityTable (field index : Byte) (value : Word) : Kind.Statement (.writeFieldAuthorityTable field index value) :=
  fun h => absurd h Bool.false_ne_true
theorem Kind.writeFieldRuleTable (field index : Byte) (value : Word) : Kind.Statement (.writeFieldRuleTable field index value) :=
  fun h => absurd h Bool.false_ne_true
theorem Kind.readCounters (group index : Byte) : Kind.Statement (.readCounters group index) :=
  fun h => absurd h Bool.false_ne_true
theorem Kind.openEdit (index : Byte) : Kind.Statement (.openEdit index) :=
  fun h => absurd h Bool.false_ne_true
theorem Kind.closeEdit (index : Byte) : Kind.Statement (.closeEdit index) :=
  fun h => absurd h Bool.false_ne_true
theorem Kind.abandonEdit (index : Byte) : Kind.Statement (.abandonEdit index) :=
  fun h => absurd h Bool.false_ne_true
theorem Kind.senseCompletion (index : Byte) : Kind.Statement (.senseCompletion index) :=
  fun h => absurd h Bool.false_ne_true
theorem Kind.homeGate (index : Byte) : Kind.Statement (.homeGate index) :=
  fun h => absurd h Bool.false_ne_true
theorem Kind.moveGateOpen (index : Byte) : Kind.Statement (.moveGateOpen index) :=
  fun h => absurd h Bool.false_ne_true
theorem Kind.moveGateClose (index : Byte) : Kind.Statement (.moveGateClose index) :=
  fun h => absurd h Bool.false_ne_true
theorem Kind.lampTest (index : Byte) : Kind.Statement (.lampTest index) :=
  fun h => absurd h Bool.false_ne_true
theorem Kind.reopen (index : Byte) : Kind.Statement (.reopen index) :=
  fun h => absurd h Bool.false_ne_true
theorem Kind.closeRoadway (index : Byte) : Kind.Statement (.closeRoadway index) :=
  fun h => absurd h Bool.false_ne_true
theorem Kind.lockPump (index : Byte) : Kind.Statement (.lockPump index) :=
  fun h => absurd h Bool.false_ne_true
theorem Kind.unlockPump (index : Byte) : Kind.Statement (.unlockPump index) :=
  fun h => absurd h Bool.false_ne_true
theorem Kind.clearFault (index : Byte) : Kind.Statement (.clearFault index) :=
  fun h => absurd h Bool.false_ne_true
theorem Kind.rotate (index : Byte) : Kind.Statement (.rotate index) :=
  fun h => absurd h Bool.false_ne_true
theorem Kind.clearUnknown (index : Byte) : Kind.Statement (.clearUnknown index) :=
  fun h => absurd h Bool.false_ne_true
theorem Kind.programIdentity (field index : Byte) (value : Word) : Kind.Statement (.programIdentity field index value) :=
  fun h => absurd h Bool.false_ne_true
theorem Kind.readIdentity (field index : Byte) : Kind.Statement (.readIdentity field index) :=
  fun h => absurd h Bool.false_ne_true
theorem Kind.resetPart (index : Byte) : Kind.Statement (.resetPart index) :=
  fun h => absurd h Bool.false_ne_true
theorem Kind.powerUpReset (fromNoSupply : Bool) : Kind.Statement (.powerUpReset fromNoSupply) :=
  fun _ => ⟨rfl, rfl⟩
theorem Kind.supplyReset : Kind.Statement (.supplyReset) := fun _ => ⟨rfl, rfl⟩
theorem Kind.requestedReset : Kind.Statement (.requestedReset) := fun _ => ⟨rfl, rfl⟩
theorem Kind.accountingPeriodExpiry : Kind.Statement (.accountingPeriodExpiry) := fun h => absurd h Bool.false_ne_true
theorem Kind.descentTimerExpiry : Kind.Statement (.descentTimerExpiry) := fun h => absurd h Bool.false_ne_true
theorem Kind.spinUpExpiry (pump : Nat) : Kind.Statement (.spinUpExpiry pump) :=
  fun h => absurd h Bool.false_ne_true
theorem Kind.stopConfirmExpiry (pump : Nat) : Kind.Statement (.stopConfirmExpiry pump) :=
  fun h => absurd h Bool.false_ne_true
theorem Kind.minimumRunExpiry (pump : Nat) : Kind.Statement (.minimumRunExpiry pump) :=
  fun h => absurd h Bool.false_ne_true
theorem Kind.restExpiry (pump : Nat) : Kind.Statement (.restExpiry pump) :=
  fun h => absurd h Bool.false_ne_true
theorem Kind.limitTimerExpiry (pump : Nat) : Kind.Statement (.limitTimerExpiry pump) :=
  fun h => absurd h Bool.false_ne_true
theorem Kind.warningExpiry (portal : Nat) : Kind.Statement (.warningExpiry portal) :=
  fun h => absurd h Bool.false_ne_true
theorem Kind.clearTimerExpiry (portal : Nat) : Kind.Statement (.clearTimerExpiry portal) :=
  fun h => absurd h Bool.false_ne_true
theorem Kind.holdLongExpiry (portal : Nat) : Kind.Statement (.holdLongExpiry portal) :=
  fun h => absurd h Bool.false_ne_true
theorem Kind.progressTimerExpiry (portal : Nat) : Kind.Statement (.progressTimerExpiry portal) :=
  fun h => absurd h Bool.false_ne_true
theorem Kind.homingTimerExpiry (portal : Nat) : Kind.Statement (.homingTimerExpiry portal) :=
  fun h => absurd h Bool.false_ne_true
theorem Kind.steadyTimerExpiry (zone : Nat) : Kind.Statement (.steadyTimerExpiry zone) :=
  fun h => absurd h Bool.false_ne_true
theorem Kind.lampTestTimerExpiry (zone : Nat) : Kind.Statement (.lampTestTimerExpiry zone) :=
  fun h => absurd h Bool.false_ne_true
theorem Kind.staleTimerExpiry (address : Nat) : Kind.Statement (.staleTimerExpiry address) :=
  fun h => absurd h Bool.false_ne_true
theorem Kind.supervisionTimerExpiry : Kind.Statement (.supervisionTimerExpiry) := fun h => absurd h Bool.false_ne_true
theorem Kind.portATransmitComplete : Kind.Statement (.portATransmitComplete) := fun _ => ⟨rfl, rfl⟩
theorem Kind.portBTransmitComplete : Kind.Statement (.portBTransmitComplete) := fun h => absurd h Bool.false_ne_true
theorem Kind.supplyReturn : Kind.Statement (.supplyReturn) := fun _ => ⟨rfl, rfl⟩

end Sys2Proof.Laws
end

