-- ==== Sys2Proof/Tests/Slice0.lean ====
section
/-! SUPPORT. Tests: ill-formed commands that the checks refuse, worked values of the spec, and for each statement with
hypotheses a state and operands that meet them, clause by clause. -/

namespace Sys2Proof.Tests

open Sys2Proof Sys2Proof.Machine

/-! ## Small states -/

/-- A cell with its check byte. -/
def cell (kind source dest selector : Byte) (value : Word) (aux : Half) (index : Byte) : Cell :=
  withCheck { kind, source, dest, selector, value, aux, index, check := 0 }

/-- A node record of a role, with a stale timer that has no seconds left. -/
def node (address : Nat) (r : Role) : Node :=
  { address, role := r, staleTime := 60, freshness := .fresh, staleTimer := some 0,
    channels := (List.range r.minimumCount).map fun c => Channel.fresh (r.channelKind c) }

/-- The state after reset with nodes. -/
def withNodes (ns : List Node) : State := { State.reset with siu.nodes := ns }

/-- The state after reset in a posture. -/
def inPosture (p : Posture) : State := { State.reset with pev.posture := p }

/-- The state after reset with pump 0 changed. -/
def withPump (f : Pump → Pump) : State := setPump 0 f State.reset

/-- The state after reset with gate 1 changed, its claim granted and its drive FRESH with a report without flags. -/
def withGate (f : Portal → Portal) : State :=
  setGate 0 (fun g => f { g with driveFresh := .fresh, reportFlags := some 0, position := some 4000 })
    { State.reset with lda.claims := State.reset.lda.claims ++ [{ owner := .gate 0, amount := 75, granted := true }] }

/-- The state after reset with zone 1 changed. -/
def withZone (f : Zone → Zone) : State := setZone 0 f State.reset

/-- The state after reset with slot `k` changed. -/
def withSlot (k : Fin 20) (f : Slot → Slot) : State := { State.reset with cfl.slots := upd State.reset.cfl.slots k f }

/-- A lamp driver assigned to zone 1, measured in 0.1 A. -/
def withLamp : State :=
  { withNodes [node 20 .lampDriver] with
    lse.config := upd State.reset.lse.config 0 fun c => { c with lampNode := 20, ratedPower := 50, ratedCurrent := 30 }
    lse.zones := upd State.reset.lse.zones 0 fun z => { z with lampFresh := .fresh } }

/-- The stage table of "Worked Case: Two Ordinary Periods" (01_sump_accounting.md). -/
def stage : StageTable :=
  { count := 3, spill := 5200,
    points := (((Vector.replicate 16 { level := 0, volume := 0 }).set 0 { level := 2000, volume := 180000 }).set 1
      { level := 3000, volume := 330000 }).set 2 { level := 5200, volume := 720000 } }

/-- The record before the first period of that case: four pumps of 350 L/s, STORM, C_avail 1,400 L/s. -/
def metered : State :=
  { withNodes [node 1 .level, node 2 .flowmeter] with
    site.levelNode := 1, site.flowNode := 2, rqa.inUse.pumps := 4, pdx.config := Vector.replicate 6 { PumpConfig.default with ratedFlow := 350 },
    sau.table := stage, sau.vRoad := some 720000, sau.levelFresh := .fresh, sau.flowFresh := .fresh, sau.level := some 2436,
    sau.count := some 14, sau.baseline := some 65530, sau.cAvail := 1400, sau.periodLength := 5, sau.periodTimer := some 0, sau.first := false,
    sau.held := false, sau.est := some { volume := 241500, outflow := 0, netRise := 700, inflow := 1000, headroom := 0, time := 0, deficit := 0 } }

/-- What a command leaves. -/
def after (c : Instr) (s : State) : State :=
  match exec c s with
  | .next t => t
  | .fault _ => s
  | .refused _ => s

/-- The value and the aux of the last cell of the port A queue. -/
def lastReply (s : State) : Option (Word × Half) := s.lif.queue.getLast?.map fun e => (e.cell.value, e.cell.aux)

/-! ## Checks -/

theorem test_refuses_cell_of_another_kind : (Instr.supervisoryCommand (cell 1 0 0 0 0 0 0)).wellFormed = false := by decide +kernel
theorem test_refuses_table_with_own_row : (Instr.writeField 12 0 0 0).wellFormed = false := by decide +kernel
theorem test_takes_table_without_row : (Instr.writeField 13 0 0 0).wellFormed = true := by decide +kernel
theorem test_refuses_pump_6 : (Instr.spinUpExpiry 6).wellFormed = false := by decide +kernel
theorem test_refuses_portal_0 : (Instr.warningExpiry 0).wellFormed = false := by decide +kernel
theorem test_refuses_portal_3 : (Instr.homingTimerExpiry 3).wellFormed = false := by decide +kernel
theorem test_refuses_zone_9 : (Instr.lampTestTimerExpiry 9).wellFormed = false := by decide +kernel
theorem test_refuses_address_60 : (Instr.staleTimerExpiry 60).wellFormed = false := by decide +kernel
theorem test_no_word_is_a_command : decodeTableWord 8 3 = none ∧ State.reset.withFetchWord 8 3 = State.reset := by decide +kernel

/-! ## Worked values of the spec -/

/-- R191: the check of the FILL of address 62. -/
theorem test_check_byte_of_fill : crc fillAtReset = 0xD2 := by decide +kernel

/-- R2, its closing sentence. -/
theorem test_volume_lookup : lookup stage 1500 = (180000, false) ∧ lookup stage 2000 = (180000, false) ∧
    lookup stage 2999 = (329850, false) ∧ lookup stage 6000 = (720000, true) := by decide +kernel

/-- 01_sump_accounting.md, the first of the two ordinary periods. -/
theorem test_ordinary_period : (after .accountingPeriodExpiry metered).sau.est =
    some { volume := 245400, outflow := 400, netRise := 720, inflow := 1045, headroom := 474600, time := 659, deficit := -355 } ∧
    (after .accountingPeriodExpiry metered).sau.baseline = some 14 := by decide +kernel

/-- 01_sump_accounting.md: the floor takes -76.25 to -77. -/
theorem test_smoothing_floors : smooth 2 1045 740 = 968 := by decide +kernel

/-- R128 and the level node of 07_the_node_table_and_sample_intake.md. -/
theorem test_scaling : let c : Scaling := { rawLow := 4000, rawHigh := 20000, engLow := 0, engHigh := 8000 }
    scale c 10400 = (3200, false) ∧ scale c 3800 = (0, true) := by decide +kernel

/-- R129: a COUNTER's SAMPLE is taken modulo 65536 as it arrived; R125 keeps the raw value of 80000000h as 80000001h. -/
theorem test_counter_sample : ((after (.portBArrival (cell 1 2 62 0 0x80000000 0 0)) (withNodes [node 2 .flowmeter])).siu.nodes.map
    fun n => n.channels.map fun c => (c.lastRaw, c.lastEng)) = [[(some (-2147483647), some 0)]] := by decide +kernel

/-- 06_lighting_and_signals.md, "One Zone Through a Storm": the band at 800, 950 and 1200 lux, and the amounts. -/
theorem test_zone_through_a_storm : bandAt .default .overcast 800 = .dusk ∧ bandAt .default .dusk 950 = .dusk ∧
    bandAt .default .dusk 1200 = .overcast ∧
    (let c := { ZoneConfig.default 2 with ratedPower := 80, floor := 30 }
     floorAmount c 60 = 24 ∧ upperAmount c 60 = 24 ∧ upperAmount c 85 = 44) := by decide +kernel

/-- 04_the_load_account.md, step 4 of the worked case in small: the second claim of a band fails, and the band after it
waits. -/
theorem test_walk_stops_at_the_first_failure :
    (grant 1800 0 true [⟨.reserve, 40, false⟩, ⟨.pump 0, 1700, false⟩, ⟨.pump 1, 450, true⟩, ⟨.upper 0, 10, true⟩]).map (·.granted) =
      [true, true, false, false] := by decide +kernel

/-- 12_a_storm_worked_through.md, step 19: detail byte 31h, high half 4000, low half 10662. -/
theorem test_sense_completion : lastReply (after (.senseCompletion 0) { State.reset with psq.completions :=
      [{ op := .moveClose, target := 2, outcome := .done, detail := some 4000, uptime := 10662 }] }) =
    some (BitVec.ofNat 32 (4000 * 65536 + 10662), 0x0031) := by decide +kernel

/-- R8, R22, R118: leaving reset with the store at its defaults gives the state after reset. -/
theorem test_power_up_of_a_new_part : after (.powerUpReset true) State.reset = State.reset := by decide +kernel

/-- R184: the part code. -/
theorem test_part_code : lastReply (after (.readIdentity 0 0) State.reset) = some (7260, 0) := by decide +kernel

/-- R32, R33: a forced closure, then a reopening to DRY. -/
theorem test_close_and_reopen : (after (.closeRoadway 0) State.reset).pev.posture = .closed ∧
    (after (.reopen 0) { State.reset with pev.posture := .closed, pev.forced := true }).pev.posture = .dry := by
  decide +kernel

/-- R61, R64: LOCK PUMP takes a pump from the roster; ROTATE brings one to the head. -/
theorem test_lock_and_rotate : (after (.lockPump 0) State.reset).pdx.roster = [1] ∧
    (after (.rotate 1) State.reset).pdx.roster = [1, 0] := by decide +kernel

/-! ## States that meet the hypotheses of the statements -/

/-- CLOSE ROADWAY waits. -/
def queued : State := { State.reset with pending := [.closeRoadway 0] }

/-- The part held in reset. -/
def held : State := { State.reset with running := false }

/-- The reply slot is occupied by the REPLY on the transmitter. -/
def replying : State :=
  { State.reset with rqa.replySlot := true, lif.headSending := true, lif.queue := [⟨.reply, cell 5 62 0 23 0 0 0⟩] }

/-- The port A queue holds `n` events. -/
def crowded (n : Nat) : State := { State.reset with lif.queue := List.replicate n ⟨.event, cell 6 62 0 1 0 0 0⟩ }

/-- The state with pump 0 locked. -/
def locked : State := { after (.lockPump 0) State.reset with rqa.replySlot := false }

/-- The state with pump 0 at the supervisor's command and RUNNING. -/
def commanded : State :=
  setPump 0 (fun p => { p with state := .running })
    (withSlot 0 fun e => { e with node := 8, effective := .supervisor })


theorem test_hyp_QueueIsKept : ∃ t, exec (.closeRoadway 0) queued = .next t := ⟨_, rfl⟩

theorem test_hyp_EmptyQueuePassesASecond : State.reset.pending = [] ∧ State.reset.running = true ∧ held.pending = [] ∧ held.running = false := by decide +kernel

theorem test_hyp_SupplyFallsAndReturns_held : held.running = false ∧ (∀ b, Instr.clearUnknown 0 ≠ .powerUpReset b) ∧ Instr.clearUnknown 0 ≠ .supplyReset ∧
    Instr.clearUnknown 0 ≠ .supplyReturn := by decide +kernel

theorem test_hyp_ResetsRestore : State.reset.running = true ∧ held.running = false ∧ Quiet State.reset ∧ State.reset.rqa.heldReset = false ∧
    (let s := { replying with rqa.heldReset := true }
     s.running = true ∧ s.rqa.heldReset = true ∧ s.lif.headSending = true ∧
       (s.lif.queue.head?.any fun e => e.kind = .reply) = true) ∧
    (let s := { replying with rqa.heldReset := true, lif.headSending := false }
     Quiet s ∧ s.lif.headSending = false) ∧
    (let s := { State.reset with rqa.heldReset := true, lif.headSending := true }
     Quiet s ∧ ∀ e ∈ s.lif.queue.head?, e.kind ≠ .reply) := by decide +kernel

theorem test_hyp_SupplyFallsAndReturns : State.reset.running = true ∧ held.running = false ∧ held.agenda = [] ∧ Quiet State.reset := by decide +kernel

theorem test_hyp_ArrivalsNotTaken : Quiet State.reset ∧ ownAddress State.reset = 62 ∧
    (let bad := { cell 1 1 62 0 5 0 0 with check := 0 }
     crc bad ≠ bad.check) ∧
    (let bad := cell 1 63 62 0 5 0 0
     crc bad = bad.check ∧ cellMalformed bad = true) ∧
    ([cell 7 1 0 0 0 0 0, cell 4 1 62 1 0 0 0, cell 3 1 62 0 0 0 0, cell 1 1 62 0 0 0 0, cell 1 1 61 0 0 0 0, cell 4 1 61 1 0 0 0,
       cell 5 1 62 0 0 0 0].all fun c => crc c = c.check && !cellMalformed c) = true := by decide +kernel

theorem test_hyp_ArrivalsNotTaken_noticed : Quiet State.reset ∧ Quiet { State.reset with cfl.supervision := .present } ∧
    (let own := cell 3 0 62 0 1 0 0
     crc own = own.check ∧ cellMalformed own = false ∧ own.source = 0 ∧ own.dest.toNat = ownAddress State.reset) ∧
    (let other := cell 4 0 61 1 0 0 0
     crc other = other.check ∧ cellMalformed other = false ∧ other.source = 0 ∧ other.dest.toNat ≠ ownAddress State.reset) := by
  decide +kernel

theorem test_hyp_PortAHandsOn :
    (let s := { State.reset with cfl.supervision := .present }
     Quiet s ∧ s.rqa.replySlot = false ∧ ownAddress s = 62 ∧ (portalIndex 1 s).isSome = true) ∧
    Quiet State.reset ∧ State.reset.cfl.supervision = .lost ∧
    ([cell 4 0 62 1 0 0 0, cell 4 0 62 23 0 0 0, cell 4 0 62 12 1 0 1, cell 3 0 8 0 1 0 0, cell 3 5 8 0 1 0 0, cell 4 0 62 0 0 0 0,
       cell 4 0 62 24 0 0 0, cell 4 0 62 12 2 0 1].all fun c => crc c = c.check && !cellMalformed c) = true ∧
    requestRow (cell 4 0 62 1 0 3 0) = some (.status 3 0) ∧ requestRow (cell 4 0 62 23 0 0 0) = some (.resetPart 0) ∧
    requestRow (cell 4 0 62 12 1 0 1) = some (.moveGateClose 1) := by decide +kernel

theorem test_hyp_SampleTaken : let good := fun c : Cell => crc c = c.check ∧ cellMalformed c = false
    let s := withNodes [node 1 .level, node 2 .flowmeter, node 3 .float, node 8 .pumpStarter]
    Quiet s ∧ good (cell 1 1 62 0 5 0 0) ∧ findNode 1 s = some (node 1 .level) ∧ mismatch (node 1 .level) (cell 1 1 62 0 5 0 0) = false ∧
    good (cell 2 1 62 0 5 0 0) ∧ mismatch (node 1 .level) (cell 2 1 62 0 5 0 0) = true ∧
    mismatch (node 1 .level) (cell 1 1 62 1 5 0 0) = true ∧
    (good (cell 1 2 62 0 0x80000000 0 0) ∧ findNode 2 s = some (node 2 .flowmeter) ∧ Role.flowmeter.channelKind 0 = .counter ∧
      mismatch (node 2 .flowmeter) (cell 1 2 62 0 0x80000000 0 0) = false) ∧
    (good (cell 1 3 62 1 1 0 0) ∧ findNode 3 s = some (node 3 .float) ∧ Role.float.channelKind 1 = .digital ∧
      mismatch (node 3 .float) (cell 1 3 62 1 1 0 0) = false) ∧
    (good (cell 2 8 62 0 0 1 0) ∧ findNode 8 s = some (node 8 .pumpStarter) ∧ Role.pumpStarter.channelKind 0 = .report ∧
      mismatch (node 8 .pumpStarter) (cell 2 8 62 0 0 1 0) = false) ∧
    good (cell 1 59 62 0 5 0 0) ∧ findNode 59 s = none ∧ good (cell 1 60 62 0 5 0 0) ∧ findNode 60 s = none ∧ findNode 0 s = none ∧
    (let full := { s with siu.unknown := [2, 3, 4, 5, 6, 7, 8, 9] }
     Quiet full ∧ 59 ∉ full.siu.unknown ∧ 9 ∈ full.siu.unknown ∧ 8 ≤ full.siu.unknown.length ∧ findNode 9 full = none) := by decide +kernel

theorem test_hyp_SampleTaken_handed : let good := fun c : Cell => crc c = c.check ∧ cellMalformed c = false
    let s := { withNodes [node 1 .level, node 3 .float] with site.levelNode := 1, site.floatNode := 3 }
    Quiet s ∧ good (cell 1 1 62 0 5 0 0) ∧ findNode 1 s = some (node 1 .level) ∧ assignmentsOf 1 s = [.level] ∧
    s.siu.marks[Assignment.level.mark] = false ∧ Assignment.level.role ≠ .signal ∧
    good (cell 1 3 62 1 1 0 0) ∧ findNode 3 s = some (node 3 .float) ∧ assignmentsOf 3 s = [.float] ∧
    (let told := { s with siu.marks := s.siu.marks.set (Assignment.level).mark true }
     Quiet told ∧ good (cell 2 1 62 0 5 0 0) ∧ mismatch (node 1 .level) (cell 2 1 62 0 5 0 0) = true ∧
       assignmentsOf 1 told = [.level] ∧ told.siu.marks[Assignment.level.mark] = true) := by decide +kernel

theorem test_hyp_PortACompletes_admission : (crowded 20).lif.queue.length ≤ 20 ∧ 20 < (crowded 21).lif.queue.length ∧ (crowded 22).lif.queue.length ≤ 22 ∧
    22 < (crowded 23).lif.queue.length ∧ (crowded 23).lif.queue.length ≤ 23 := by decide +kernel

theorem test_hyp_PortACompletes : Quiet replying ∧ replying.rqa.heldReset = false ∧ replying.lif.headSending = true ∧
    (let s := { State.reset with rqa.heldReset := true, lif.headSending := true }
     Quiet s ∧ ∀ e ∈ s.lif.queue.head?, e.kind ≠ .reply) := by decide +kernel

theorem test_hyp_PortBArbitrates : (let s := withSlot 8 fun e => { e with node := 18 }
     Quiet s ∧ slotReady .safety 8 s = true ∧ ∀ j : Fin 20, j < 8 → slotReady .safety j s = false) ∧
    (let s := withSlot 12 fun e => { e with node := 20, target := some 40, pending := true, cls := some .ordinary }
     Quiet s ∧ slotReady .ordinary 12 s = true ∧ (∀ j : Fin 20, j < 12 → slotReady .ordinary j s = false) ∧
       (∀ j : Fin 20, slotReady .safety j s = false) ∧ s.lif.fifo = [] ∧ zoneSlot 0 = 12 ∧
       s.cfl.slots[(12 : Fin 20)].emitted ≠ s.cfl.slots[(12 : Fin 20)].target) ∧
    (∀ j : Fin 20, slotReady .safety j State.reset = false ∧ slotReady .ordinary j State.reset = false) ∧
    State.reset.lif.fifo = [] ∧ Quiet { State.reset with lif.fifo := [cell 3 0 9 0 1 0 0] } := by decide +kernel

theorem test_hyp_CapacityKept : WithinCapacity queued ∧ ∃ t, step queued = .next t := ⟨by decide +kernel, _, rfl⟩

theorem test_hyp_NodesKept : NodesSound queued ∧ ∃ t, step queued = .next t := ⟨by decide +kernel, _, rfl⟩

theorem test_hyp_EstimatesKept : EstimatesSound queued ∧ ∃ t, step queued = .next t := ⟨by decide +kernel, _, rfl⟩

theorem test_hyp_LoadKept : (LoadSound queued ∧ GrantedHead queued) ∧ ∃ t, step queued = .next t := ⟨by decide +kernel, _, rfl⟩

theorem test_hyp_SweepKept : SweepSafe queued ∧ ∃ t, step queued = .next t := ⟨by decide +kernel, _, rfl⟩

theorem test_hyp_OperationsKept : OperationsSound queued ∧ ∃ t, step queued = .next t := ⟨by decide +kernel, _, rfl⟩

theorem test_hyp_ImageKept : ImageSound queued ∧ ∃ t, step queued = .next t := ⟨by decide +kernel, _, rfl⟩

theorem test_hyp_PumpsKept : (RosterSound queued ∧ OneStarting queued) ∧ ∃ t, step queued = .next t := ⟨by decide +kernel, _, rfl⟩

theorem test_hyp_StartsKept : (StartsSound queued ∧ queued.uptime.toNat + 1 < 2 ^ 32) ∧ ∃ t, step queued = .next t := ⟨by decide +kernel, _, rfl⟩

theorem test_hyp_SignalsKept : (SignalsSound queued ∧ queued.running = true ∧ portalInstalled 0 queued = true ∧ queued.lse.gates[(0 : Fin 2)] ≠ .open) ∧
    ∃ t, step queued = .next t := ⟨by decide +kernel, _, rfl⟩

theorem test_hyp_GateCopiesKept : (queued.agenda = [] ∧
      ∀ p : Fin 2, queued.lse.gates[p] = queued.psq.portals[p].state ∧ queued.cfl.gates[p] = queued.psq.portals[p].state) ∧
    (∃ t, step queued = .next t ∧ t.agenda = []) ∧
    SignalsSound State.reset ∧ State.reset.running = true ∧ portalInstalled 0 State.reset = true ∧
    State.reset.lse.gates[(0 : Fin 2)] = State.reset.psq.portals[(0 : Fin 2)].state ∧ State.reset.psq.portals[(0 : Fin 2)].state ≠ .open :=
  ⟨by decide +kernel, ⟨_, rfl, by decide +kernel⟩, by decide +kernel⟩

theorem test_hyp_ClosedIsLatched : (let s := inPosture .closed
     s.agenda = [] ∧ s.pev.posture = .closed ∧ s.pev.descent = .stopped ∧ DescentSound s ∧ mayReset .descentTimerExpiry = false ∧
       (∀ i, Instr.descentTimerExpiry = .reopen i → candidateWith false s = .closed) ∧
       ∀ x, Instr.descentTimerExpiry = .portAArrival x → candidateWith false s = .closed) ∧
    ∃ t, exec .descentTimerExpiry (inPosture .closed) = .next t := ⟨⟨rfl, rfl, rfl, fun _ => rfl, rfl, fun _ h => (nomatch h), fun _ h => (nomatch h)⟩, _, rfl⟩

theorem test_hyp_CheckByteDetects : (1 : Byte) ≠ 2 := by decide +kernel

theorem test_hyp_StaleExpiry : let s := withNodes [node 1 .level, { node 3 .float with staleTimer := some 1 }]
    Quiet s ∧ findNode 1 s = some (node 1 .level) ∧ (node 1 .level).staleTimer = some 0 ∧ findNode 2 s = none ∧
    (findNode 3 s).any (fun n => n.staleTimer ≠ some 0) = true := by decide +kernel

theorem test_hyp_ScalingBounds : Scaling.default.rawLow < Scaling.default.rawHigh ∧ Scaling.default.engLow ≤ Scaling.default.engHigh ∧
    (let c : Scaling := { rawLow := 5, rawHigh := 5, engLow := 1, engHigh := 9 }
     c.rawLow ≤ c.rawHigh) := by decide +kernel

theorem test_hyp_VolumeLookup : stage.valid = true ∧ stage.used.head? = some ⟨2000, 180000⟩ ∧ stage.used.getLast? = some ⟨5200, 720000⟩ ∧
    stage.used[1]? = some ⟨3000, 330000⟩ ∧ stage.used[2]? = some ⟨5200, 720000⟩ := by decide +kernel

theorem test_hyp_Smoothing : (3 : Int) ≤ 3 ∧ (2 : Int) < 3 := by decide +kernel

theorem test_hyp_AccountingExpiry : (let s := { State.reset with sau.periodTimer := some 0 }
     Quiet s ∧ (heldCause s).isSome = true) ∧
    Quiet metered ∧ metered.sau.periodTimer = some 0 ∧ heldCause metered = none ∧ metered.sau.level = some 2436 ∧
    metered.sau.first = false ∧ metered.sau.est.isSome = true ∧
    (let s := { metered with sau.first := true }
     Quiet s ∧ heldCause s = none ∧ s.sau.first = true) := by decide +kernel

theorem test_hyp_AccountingExpiry_outflow : (let stale := { metered with sau.flowFresh := .stale }
     Quiet stale ∧ heldCause stale = none) ∧
    (let never := { metered with sau.flowFresh := .never }
     Quiet never ∧ heldCause never = none) ∧
    (let first := { metered with sau.baseline := none }
     Quiet first ∧ heldCause first = none ∧ first.sau.flowFresh = .fresh) ∧
    metered.sau.count = some 14 ∧ metered.sau.baseline = some 65530 ∧
    (((List.finRange 6).filter fun i => pumpInstalled i metered).map fun i => metered.pdx.config[i].ratedFlow).sum = 1400 ∧
    ((14 - 65530) % 65536 : Int) * metered.site.litresPerCount ≤ 2 * 5 * 1400 ∧
    (let s := { metered with sau.count := some 10000 }
     Quiet s ∧ heldCause s = none ∧ 2 * 5 * 1400 < ((10000 - 65530) % 65536 : Int) * s.site.litresPerCount) ∧
    Quiet State.reset ∧ State.reset.sau.periodTimer ≠ some 0 := by decide +kernel

theorem test_hyp_StageTableEdit : Ready State.reset ∧ stormy State.reset = false ∧ State.reset.sau.staging = none ∧ stormy (inPosture .storm) = true ∧
    (let s := { State.reset with sau.staging := some stage }
     Ready s ∧ s.sau.staging.isSome = true ∧ stage.valid = true ∧ StageTable.default.valid = false ∧
       (stagePut stage 2 15 15000).isSome = true ∧ stageRange 2 15000 = true ∧ stageRange 2 15001 = false ∧
       (stagePut stage 0 0 1).isSome = true ∧ stageRange 0 1 = false) := by decide +kernel

theorem test_hyp_StageTableEdit_abandon : Ready { State.reset with sau.staging := some stage } ∧ Ready State.reset ∧ State.reset.sau.staging = none := by decide +kernel

theorem test_hyp_EvaluationRises : (let s := { State.reset with pev.level := some 1500 }
     s.pev.posture.code < (candidateOf s).code) ∧ (candidateOf State.reset).code ≤ State.reset.pev.posture.code := by decide +kernel

theorem test_hyp_DescentExpiry : (let s := { inPosture .alert with pev.descent := .running 0 }
     Quiet s ∧ s.pev.descent = .running 0 ∧ s.pev.posture ≠ .dry ∧ s.pev.posture ≠ .closed) ∧
    State.reset.pev.descent ≠ .running 0 := by decide +kernel

/-- A computed accounting completion without a level. -/
def counted (held : Bool) : Accounting := { time := none, inflow := none, deficit := none, held, level := none }

theorem test_hyp_DescentExpiry_timer : (candidateOf State.reset).code = State.reset.pev.posture.code ∧
    (candidateOf (inPosture .wet)).code < (inPosture .wet).pev.posture.code ∧ (inPosture .wet).pev.posture ≠ .closed ∧
    (runTask (.completionPev (counted true)) (inPosture .wet)).pev.descent = .paused State.reset.pev.thresholds.descentTime ∧
    (runTask (.completionPev (counted false)) { inPosture .wet with pev.descent := .paused 7 }).pev.descent = .running 7 := by
  decide +kernel

theorem test_hyp_RoadwayRequests : Ready State.reset ∧ State.reset.pev.posture ≠ .closed ∧
    (let s := inPosture .closed
     Ready s ∧ candidateWith false s ≠ .closed) ∧
    (let s := { inPosture .closed with pev.held := false, pev.time := some 300 }
     Ready s ∧ s.pev.posture = .closed ∧ candidateWith false s = .closed) := by decide +kernel

theorem test_hyp_RoadwayRequests_details :
    (let s := { inPosture .closed with pev.held := true, pev.time := some 300, pev.depthFresh := Vector.replicate 2 .fresh,
                                       pev.depth := Vector.replicate 2 (some 50) }
     Ready s ∧ s.pev.posture = .closed ∧ candidateWith false s = .closed ∧ s.pev.held = true ∧
       (s.pev.depth[(0 : Fin 2)].any fun d => (s.pev.thresholds.closeDepth : Int) ≤ d) = true) ∧
    (let s := { inPosture .closed with pev.held := false, pev.time := some 301, pev.depthFresh := Vector.replicate 2 .fresh,
                                       pev.depth := (Vector.replicate 2 (some 50)).set 0 (some 49) }
     Ready s ∧ candidateWith false s = .closed ∧ (s.pev.time.any fun t => t ≤ (s.pev.thresholds.closeTime : Int)) = false) ∧
    Ready (inPosture .closed) ∧ (inPosture .closed).pev.posture = .closed := by decide +kernel

theorem test_hyp_StartSelection : let s := setPump 0 (fun p => { p with fresh := .fresh }) { State.reset with pdx.demand := 1 }
    (selectStart s).pdx.pumps[(0 : Fin 6)].state ≠ s.pdx.pumps[(0 : Fin 6)].state := by decide +kernel

/-- Pumps 0 and 1 FRESH, with a demand of 1. -/
def demanded : State := setPump 1 (fun p => { p with fresh := .fresh })
  (setPump 0 (fun p => { p with fresh := .fresh }) { State.reset with pdx.demand := 1 })

/-- That demand with no power for a pump. -/
def powerless : State :=
  { demanded with lda.limits.mains := 40, pdx.config := Vector.replicate 6 { PumpConfig.default with ratedPower := 450 } }

/-- Pump 0 waits for power. -/
def waiting (claims : List Claim) (s : State) : State :=
  setPump 0 (fun p => { p with powerWait := true }) { s with lda.claims := claims }

theorem test_hyp_StartSelection_first : demanded.pdx.roster = [] ++ 0 :: [1] ∧ Startable 0 demanded ∧ anyStarting demanded = false ∧
    (∀ j : Fin 6, demanded.pdx.pumps[j].powerWait = false) ∧ engagedCount demanded < demanded.pdx.demand ∧
    holdsClaim (.pump 0) demanded = false ∧ wouldGrant (.pump 0) demanded.pdx.config[(0 : Fin 6)].ratedPower demanded = true ∧
    (Startable 0 powerless ∧ anyStarting powerless = false ∧ (∀ j : Fin 6, powerless.pdx.pumps[j].powerWait = false) ∧
      engagedCount powerless < powerless.pdx.demand ∧ holdsClaim (.pump 0) powerless = false ∧
      wouldGrant (.pump 0) powerless.pdx.config[(0 : Fin 6)].ratedPower powerless = false) ∧
    (let s := setPump 0 (fun p => { p with fresh := .never }) demanded
     s.pdx.roster = [0] ++ 1 :: [] ∧ (∀ j ∈ [(0 : Fin 6)], ¬Startable j s) ∧ Startable 1 s) := by decide +kernel

theorem test_hyp_DemandAndDispatch : (let s := { State.reset with pdx.ladder.count := 1 }
     let r := s.pdx.ladder.rungs[(0 : Fin 6)]
     0 < s.pdx.ladder.count ∧ s.pdx.ladder.count ≤ 1 ∧ (r.start : Int) ≤ r.start) ∧
    (let l := State.reset.pdx.ladder.rungs.set 0 ⟨2000, 1500⟩
     (1500 : Int) < l[(0 : Fin 6)].start ∧ (1500 : Int) ≤ l[(0 : Fin 6)].stop ∧ (1501 : Int) < l[(0 : Fin 6)].start ∧
       (l[(0 : Fin 6)].stop : Int) < 1501) ∧
    (let s := { State.reset with pdx.held := true, pdx.floatFresh := .fresh }
     s.pdx.held = true ∧ s.pdx.floatFresh = .fresh ∧ { s with pdx.highFloat := some 1 }.pdx.highFloat = some 1) ∧
    ({ State.reset with pdx.held := false } : State).pdx.held = false ∧
    (let s := setPump 0 (fun p => { p with state := .running, runSince := some 5 }) State.reset
     s.pdx.roster.Nodup ∧ s.pdx.demand < engagedCount s ∧ RanLast 0 s ∧ s.pdx.pumps[(0 : Fin 6)].minRun = none ∧
       RanLast 0 (setPump 0 (fun p => { p with minRun := some 3 }) s)) ∧
    engagedCount State.reset ≤ State.reset.pdx.demand ∧
    (let s := setPump 0 (fun p => { p with state := .starting }) State.reset
     s.pdx.demand < engagedCount s ∧ ∀ i : Fin 6, pumpEngaged i s = true → s.pdx.pumps[i].state ≠ .running) := by decide +kernel

theorem test_hyp_PowerWait : (let s := waiting [⟨.pump 0, 450, false⟩] powerless
     s.pdx.pumps[(0 : Fin 6)].powerWait = true ∧ (∀ j : Fin 6, j < 0 → s.pdx.pumps[j].powerWait = false) ∧ Startable 0 s ∧
       0 ∈ s.pdx.roster ∧ engagedCount s < s.pdx.demand ∧ holdsClaim (.pump 0) s = true) ∧
    ¬engagedCount (waiting [] State.reset) < (waiting [] State.reset).pdx.demand ∧
    (let s := waiting [] powerless
     Startable 0 s ∧ holdsClaim (.pump 0) s = false ∧
       claimGranted (.pump 0) (askWaiting (.pump 0) s.pdx.config[(0 : Fin 6)].ratedPower s) = false) ∧
    (let s := waiting [] demanded
     Startable 0 s ∧ engagedCount s < s.pdx.demand ∧ holdsClaim (.pump 0) s = false ∧
       claimGranted (.pump 0) (askWaiting (.pump 0) s.pdx.config[(0 : Fin 6)].ratedPower s) = true) ∧
    (let s := setPump 1 (fun p => { p with state := .starting }) (waiting [⟨.pump 0, 450, true⟩] { demanded with pdx.demand := 2 })
     s.pdx.pumps[(0 : Fin 6)].powerWait = true ∧ claimGranted (.pump 0) s = true ∧ Startable 0 s ∧ engagedCount s < s.pdx.demand ∧
       pumpInstalled 1 s = true ∧ s.pdx.pumps[(1 : Fin 6)].state = .starting) ∧
    (let s := waiting [⟨.pump 0, 450, true⟩] demanded
     claimGranted (.pump 0) s = true ∧ (∀ j : Fin 6, s.pdx.pumps[j].state ≠ .starting) ∧ Startable 0 s ∧
       (setPump 0 (fun p => { p with state := .running }) s).pdx.pumps[(0 : Fin 6)].state = .running ∧ holdsClaim (.pump 0) s = true) ∧
    (∀ j : Fin 6, State.reset.pdx.pumps[j].powerWait = false) ∧ holdsClaim (.pump 0) State.reset = false := by decide +kernel

theorem test_hyp_StarterReports : State.reset.pdx.pumps[(0 : Fin 6)].state = .idle ∧
    ((1 : Half).getLsbD 0 = true ∧ (1 : Half).getLsbD 1 = false ∧ (3 : Half).getLsbD 1 = true ∧ (0 : Half).getLsbD 0 = false) ∧
    wouldGrant (.pump 0) State.reset.pdx.config[(0 : Fin 6)].ratedPower State.reset = true ∧
    (wouldGrant (.pump 0) 450 powerless = false ∧ withinGrant (.pump 0) 450 powerless = false ∧
      powerless.pdx.pumps[(0 : Fin 6)].state = .idle ∧ powerless.pdx.config[(0 : Fin 6)].ratedPower = 450) ∧
    (locked.pdx.pumps[(0 : Fin 6)].state = .idle ∧ locked.pdx.lockoutSet[(0 : Fin 6)] = true ∧ partHas (pumpSlot 0) locked = true ∧
      wouldGrant (.pump 0) locked.pdx.config[(0 : Fin 6)].ratedPower locked = true) ∧
    (let s := setPump 0 (fun p => { p with state := .stopping, stopCause := some .demand }) State.reset
     s.pdx.pumps[(0 : Fin 6)].stopCause = some .demand ∧ s.pdx.roster.head? = some 0 ∧ partHas (pumpSlot 0) s = true) ∧
    (let s := setPump 0 (fun p => { p with state := .faulted }) powerless
     holdsClaim (.pump 0) s = false ∧ wouldGrant (.pump 0) 450 s = false ∧ holdsClaim (.pump 0) (waiting [⟨.pump 0, 450, true⟩] s) = true) ∧
    commanded.pdx.pumps[(0 : Fin 6)].state = .running := by decide +kernel

theorem test_hyp_LockAndUnlock : Ready State.reset ∧ RosterSound State.reset ∧ pumpIndex 0 State.reset = some 0 ∧
    State.reset.pdx.lockoutSet[(0 : Fin 6)] = false ∧ partHas (pumpSlot 0) State.reset = true ∧
    (Ready commanded ∧ RosterSound commanded ∧ pumpIndex 0 commanded = some 0 ∧ commanded.pdx.lockoutSet[(0 : Fin 6)] = false ∧
      partHas (pumpSlot 0) commanded = false ∧ commanded.pdx.pumps[(0 : Fin 6)].up = true) ∧
    Ready locked ∧ RosterSound locked ∧ pumpIndex 0 locked = some 0 ∧ locked.pdx.lockoutSet[(0 : Fin 6)] = true := 
  ⟨by decide +kernel, by decide +kernel, by decide +kernel, by decide +kernel, by decide +kernel,
    ⟨by decide +kernel, by decide +kernel, by decide +kernel⟩, by decide +kernel, by decide +kernel, by decide +kernel⟩

theorem test_hyp_LockAndUnlock_authority :
    (let s := setPump 0 (fun p => { p with state := .running }) locked
     partHas (pumpSlot 0) s = true ∧ s.pdx.lockoutSet[(0 : Fin 6)] = true ∧ s.pdx.pumps[(0 : Fin 6)].up = true ∧
       pumpInstalled 0 s = true ∧ (runTask (.authority (pumpSlot 0)) s).pdx.pumps[(0 : Fin 6)].stopCause = some .lock) ∧
    (partHas (pumpSlot 0) State.reset = true ∧ State.reset.pdx.lockoutSet[(0 : Fin 6)] = false ∧
      State.reset.pdx.pumps[(0 : Fin 6)].powerWait = false) ∧
    (let s := setPump 0 (fun p => { p with powerWait := true }) commanded
     partHas (pumpSlot 0) s = false ∧ s.pdx.pumps[(0 : Fin 6)].powerWait = true) ∧
    (partHas (pumpSlot 0) commanded = false ∧ commanded.pdx.pumps[(0 : Fin 6)].powerWait = false) := by decide +kernel

theorem test_hyp_LockAndUnlock_states :
    (let s := setPump 0 (fun p => { p with state := .starting }) State.reset
     Ready s ∧ s.pdx.lockoutSet[(0 : Fin 6)] = false ∧ partHas (pumpSlot 0) s = true ∧ s.pdx.pumps[(0 : Fin 6)].up = true ∧
       s.pdx.pumps[(0 : Fin 6)].powerWait = false) ∧
    (let s := waiting [⟨.pump 0, 450, false⟩] State.reset
     Ready s ∧ s.pdx.pumps[(0 : Fin 6)].up = false ∧ s.pdx.pumps[(0 : Fin 6)].powerWait = true) ∧
    (let s := setPump 0 (fun p => { p with state := .faulted }) locked
     Ready s ∧ s.pdx.lockoutSet[(0 : Fin 6)] = true ∧ s.pdx.pumps[(0 : Fin 6)].state = .faulted) ∧
    locked.pdx.pumps[(0 : Fin 6)].state ≠ .faulted := by decide +kernel

theorem test_hyp_ClearFaultAndRotate : (let s := withPump fun p => { p with state := .faulted, fresh := .fresh, report := some 0, fault := some .trip }
     Ready s ∧ pumpIndex 0 s = some 0 ∧ faultClearable 0 s = true ∧ s.pdx.faultSet[(0 : Fin 6)] = false ∧
       (let t := { s with pdx.faultSet := s.pdx.faultSet.set 0 true, pdx.roster := [1] }
        Ready t ∧ pumpIndex 0 t = some 0 ∧ faultClearable 0 t = true ∧ t.pdx.faultSet[(0 : Fin 6)] = true ∧ 0 ∉ t.pdx.roster)) ∧
    Ready State.reset ∧ pumpIndex 1 State.reset = some 1 ∧ faultClearable 1 State.reset = false ∧ 1 ∈ State.reset.pdx.roster ∧
    pumpIndex 2 State.reset = none ∧ pumpIndex 6 State.reset = none := by decide +kernel

theorem test_hyp_PumpTimers : (let s := withPump fun p => { p with state := .starting, spinUp := some 0 }
     Quiet s ∧ s.pdx.pumps[(0 : Fin 6)].spinUp = some 0 ∧ s.pdx.pumps[(0 : Fin 6)].state = .starting ∧
       partHas (pumpSlot 0) s = true ∧ pumpInstalled 0 s = true ∧ 0 ∈ s.pdx.roster) ∧
    (let s := withPump fun p =>
        { p with state := .stopping, stopConfirm := some 0, minRun := some 0, rest := some 0, limit := some 0 }
     Quiet s ∧ s.pdx.pumps[(0 : Fin 6)].stopConfirm = some 0 ∧ s.pdx.pumps[(0 : Fin 6)].state = .stopping ∧
       s.pdx.pumps[(0 : Fin 6)].minRun = some 0 ∧ s.pdx.pumps[(0 : Fin 6)].rest = some 0 ∧
       s.pdx.pumps[(0 : Fin 6)].limit = some 0) ∧
    Quiet State.reset ∧ State.reset.pdx.pumps[(0 : Fin 6)] = .atReset := by decide +kernel

theorem test_hyp_TierDerivation_classes : Limits.default.cutoffMv < Limits.default.criticalMv ∧ classOf .default .normal false 44000 = .normal ∧
    classOf .default .normal false 43999 = .critical ∧ classOf .default .normal false 41999 = .depleted ∧
    classOf .default .critical false 44100 = .normal ∧ classOf .default .critical false 44099 = .critical ∧
    classOf .default .critical false 41999 = .depleted ∧ classOf .default .depleted false 44100 = .normal ∧
    classOf .default .depleted false 42100 = .critical ∧ classOf .default .depleted false 42099 = .depleted := by decide +kernel

theorem test_hyp_TierDerivation : State.reset.lda.mains = none ∧ (deriveTier { State.reset with lda.mains := some 1 }).lda.tier = State.reset.lda.tier ∧
    (deriveTier { State.reset with lda.mains := some 0, lda.generator := some 1 }).lda.tier ≠ State.reset.lda.tier ∧
    22 < (crowded 23).lif.queue.length ∧ (deriveTier { crowded 23 with lda.mains := some 0 }).lda.tier ≠ (crowded 23).lda.tier ∧
    (deriveTier { State.reset with lda.mains := some 0 }).lda.tier = .battery := by decide +kernel

theorem test_hyp_WalkGrantsLongestPrefix : let cs : List Claim :=
      [⟨.upper 1, 5, true⟩, ⟨.pump 1, 9, false⟩, ⟨.pump 0, 9, true⟩, ⟨.upper 0, 5, true⟩, ⟨.gate 1, 7, false⟩, ⟨.floor 7, 3, true⟩, ⟨.reserve, 40, true⟩]
    (cs.map (·.owner)).Nodup ∧ State.reset.pdx.roster.Nodup ∧ (∀ z : Fin 8, State.reset.lse.config[z].shedPriority ≤ 8) ∧
    (walkOrder State.reset cs).map (·.owner) = [.reserve, .gate 1, .floor 7, .pump 0, .pump 1, .upper 0, .upper 1] := by decide +kernel

/-- The state after reset with claims behind the signal reserve and the mains limit at `limit`. -/
def claimed (limit : Nat) (cs : List Claim) : State :=
  { State.reset with lda.claims := State.reset.lda.claims ++ cs, lda.limits.mains := limit }

theorem test_hyp_AsksAndReleases : (let s := claimed 100 [⟨.gate 0, 60, true⟩]
     GrantedHead s ∧ grantedSum s.lda.claims = tierLimit s ∧ (s.lda.claims.map (·.owner)).Nodup ∧ s.pdx.roster.Nodup ∧
       (∀ z : Fin 8, s.lse.config[z].shedPriority ≤ 8) ∧ ⟨.gate 0, 60, true⟩ ∈ s.lda.claims ∧ Owner.gate 0 ≠ .gate 1 ∧
       claimOf (.gate 1) s.lda.claims = none ∧ (Owner.gate 0).band ≤ (Owner.gate 1).band ∧
       (askAtOnce (.gate 1) 1 s).1 = false ∧ (askAtOnce (.gate 1) 0 s).1 = true ∧
       (claimOf (.gate 0) s.lda.claims).any (fun c => c.amount = 60) = true ∧
       (claimOf (.gate 0) s.lda.claims).any (fun c => c.amount = 61) = false ∧ (claimOf (.gate 0) s.lda.claims).isSome = true) ∧
    (let s := claimed 100 [⟨.gate 0, 60, true⟩, ⟨.floor 0, 1, false⟩]
     GrantedHead s ∧ claimGranted (.floor 0) (release (.gate 0) s) = true ∧ claimGranted (.gate 0) (release (.floor 0) s) = true) := by
  decide +kernel

theorem test_hyp_TierDerivation_node : (let s := { State.reset with lda.tier := .battery }
     (43900 : Int) < s.lda.limits.lowMv ∧ (43900 : Int) % 100 = 0 ∧ s.lda.low = false) ∧
    (State.reset.lda.limits.lowMv : Int) + 100 ≤ 60000 ∧ State.reset.lda.tier ≠ .battery := by decide +kernel

theorem test_hyp_GateRequests : Ready State.reset ∧ portalIndex 1 State.reset = some 0 ∧ homeRefusal 0 State.reset = some .notReady ∧
    moveOpenRefusal 0 State.reset = some .notReady ∧ moveCloseRefusal 0 State.reset = some .notReady ∧
    (let s := withGate id
     Ready s ∧ portalIndex 1 s = some 0 ∧ homeRefusal 0 s = none ∧ claimGranted (.gate 0) s = true ∧ partHas (gateSlot 0) s = true) ∧
    (let s := withGate fun g => { g with state := .closed }
     Ready s ∧ portalIndex 1 s = some 0 ∧ moveOpenRefusal 0 s = none ∧ moveCloseRefusal 0 s = none ∧
       s.psq.portals[(0 : Fin 2)].driveFresh = .fresh ∧ claimGranted (.gate 0) s = true ∧ partHas (gateSlot 0) s = true) ∧
    (let s := withGate fun g => { g with state := .held }
     Ready s ∧ portalIndex 1 s = some 0 ∧ moveOpenRefusal 0 s = none ∧ s.psq.portals[(0 : Fin 2)].driveFresh = .fresh) ∧
    (let s := { withGate (fun g => { g with state := .open }) with psq.posture := .alert }
     Ready s ∧ portalIndex 1 s = some 0 ∧ moveOpenRefusal 0 s = none ∧ moveCloseRefusal 0 s = none ∧
       s.psq.portals[(0 : Fin 2)].state = .open) := by decide +kernel

/-- A gate FRESH at its drive with no claim, the mains limit at `limit`. -/
def unpowered (limit : Nat) (f : Portal → Portal) : State :=
  { withGate f with lda.claims := State.reset.lda.claims, lda.limits.mains := limit }

theorem test_hyp_GateRequests_motion :
    (let s := unpowered 6000 id
     Ready s ∧ homeRefusal 0 s = none ∧ holdsClaim (.gate 0) s = false ∧ wouldGrant (.gate 0) s.psq.config[(0 : Fin 2)].power s = true) ∧
    (let s := unpowered 40 id
     Ready s ∧ homeRefusal 0 s = none ∧ claimGranted (.gate 0) s = false ∧ wouldGrant (.gate 0) s.psq.config[(0 : Fin 2)].power s = false) ∧
    (let s := unpowered 40 fun g => { g with state := .closed }
     Ready s ∧ moveOpenRefusal 0 s = none ∧ s.psq.portals[(0 : Fin 2)].driveFresh = .fresh ∧
       wouldGrant (.gate 0) s.psq.config[(0 : Fin 2)].power s = false) ∧
    (let s := setGate 0 (fun g => { g with state := .held, driveFresh := .stale }) (unpowered 6000 id)
     Ready s ∧ moveOpenRefusal 0 s = none ∧ s.psq.portals[(0 : Fin 2)].driveFresh ≠ .fresh) ∧
    (let s := unpowered 6000 fun g => { g with state := .warning, target := some .close }
     Ready s ∧ moveOpenRefusal 0 s = none ∧ moveCloseRefusal 0 { s with psq.posture := .alert } = none) ∧
    (let s := { withGate fun g => { g with state := .closing, target := some .close } with psq.posture := .alert }
     Ready s ∧ moveOpenRefusal 0 s = none ∧ moveCloseRefusal 0 s = none) ∧
    (let s := { withGate fun g => { g with state := .opening, target := some .open } with psq.posture := .alert }
     Ready s ∧ moveOpenRefusal 0 s = none ∧ moveCloseRefusal 0 s = none ∧ s.psq.portals[(0 : Fin 2)].powerWait = false ∧
       claimGranted (.gate 0) s = true) ∧
    (let s := { withGate fun g => { g with state := .held, target := some .home, powerWait := true } with psq.posture := .alert }
     Ready s ∧ moveCloseRefusal 0 s = none ∧ s.psq.portals[(0 : Fin 2)].target ≠ some .close) := by decide +kernel

theorem test_hyp_DriveAndPresence :
    ((17 : Half).getLsbD 0 = true ∧ (17 : Half).getLsbD 4 = true ∧ (18 : Half).getLsbD 1 = true ∧ (18 : Half).getLsbD 3 = false ∧
      (8 : Half).getLsbD 3 = true ∧ (0 : Half).getLsbD 4 = false) ∧
    (State.reset.psq.portals[(0 : Fin 2)].state = .unknown ∧ State.reset.psq.portals[(0 : Fin 2)].target = none ∧
      State.reset.psq.portals[(0 : Fin 2)].driveFresh ≠ .fresh ∧ State.reset.psq.posture ≠ .closed) ∧
    (let s := unpowered 6000 id
     s.psq.portals[(0 : Fin 2)].driveFresh = .fresh ∧ holdsClaim (.gate 0) s = false ∧
       wouldGrant (.gate 0) s.psq.config[(0 : Fin 2)].power s = true) ∧
    (let s := unpowered 40 id
     claimGranted (.gate 0) s = false ∧ wouldGrant (.gate 0) s.psq.config[(0 : Fin 2)].power s = false) ∧
    (let s := withGate fun g => { g with state := .closing }
     s.psq.portals[(0 : Fin 2)].state.moving = true ∧ s.psq.portals[(0 : Fin 2)].powerWait = false ∧ claimGranted (.gate 0) s = true ∧
       s.psq.portals[(0 : Fin 2)].presence = .clear) ∧
    (let s := withGate fun g => { g with state := .held, target := some .close }
     s.psq.portals[(0 : Fin 2)].clear = none ∧ s.psq.portals[(0 : Fin 2)].presence = .clear ∧ s.psq.portals[(0 : Fin 2)].state.moving = false) ∧
    (let s := { withGate fun g => { g with presence := .occupied } with
        psq.config := upd State.reset.psq.config 0 fun c => { c with presenceNode := 30 }, siu.nodes := [node 30 .presence] }
     assigned (.presence 0) s = true ∧ s.psq.portals[(0 : Fin 2)].presence = .occupied ∧
       assigned (.presence 0) State.reset = false) := by decide +kernel

theorem test_hyp_GateTimers : (let s := withGate fun g => { g with state := .warning, warning := some 0, presence := .occupied, target := some .close }
     Quiet s ∧ s.psq.portals[(0 : Fin 2)].warning = some 0 ∧ s.psq.portals[(0 : Fin 2)].state = .warning) ∧
    (let s := withGate fun g => { g with state := .warning, warning := some 0, target := some .close }
     Quiet s ∧ s.psq.portals[(0 : Fin 2)].presence = .clear ∧ s.psq.portals[(0 : Fin 2)].driveFresh = .fresh ∧
       claimGranted (.gate 0) s = true ∧ partHas (gateSlot 0) s = true ∧ portalInstalled 0 s = true ∧
       (let silent := setGate 0 (fun g => { g with driveFresh := .stale }) s
        Quiet silent ∧ silent.psq.portals[(0 : Fin 2)].warning = some 0 ∧ silent.psq.portals[(0 : Fin 2)].driveFresh ≠ .fresh)) ∧
    (let s := { withGate (fun g => { g with state := .warning, warning := some 0, target := some .close }) with lda.claims := State.reset.lda.claims }
     Quiet s ∧ holdsClaim (.gate 0) s = false ∧ wouldGrant (.gate 0) s.psq.config[(0 : Fin 2)].power s = true) ∧
    (let s := { withGate (fun g => { g with state := .warning, warning := some 0, target := some .close }) with
        lda.claims := State.reset.lda.claims, lda.limits.mains := 40 }
     Quiet s ∧ claimGranted (.gate 0) s = false ∧ wouldGrant (.gate 0) s.psq.config[(0 : Fin 2)].power s = false) ∧
    (let s := withGate fun g => { g with state := .held, clear := some 0, holdLong := some 0, target := some .close }
     Quiet s ∧ s.psq.portals[(0 : Fin 2)].reportFlags.any closedLimitFlag = false ∧ s.psq.portals[(0 : Fin 2)].presence = .clear ∧
       s.psq.portals[(0 : Fin 2)].driveFresh = .fresh ∧ claimGranted (.gate 0) s = true ∧
       (let t := { s with lda.claims := [{ owner := .gate 0, amount := 75, granted := false }] }
        Quiet t ∧ claimGranted (.gate 0) t = false ∧ holdsClaim (.gate 0) t = true)) ∧
    (let s := withGate fun g => { g with state := .held, clear := some 0, target := some .close, reportFlags := some 18 }
     Quiet s ∧ s.psq.portals[(0 : Fin 2)].reportFlags.any closedLimitFlag = true) ∧
    (let s := withGate fun g => { g with state := .closing, progress := some 0 }
     Quiet s ∧ s.psq.portals[(0 : Fin 2)].state.moving = true) ∧
    (let s := withGate fun g => { g with state := .homing, homing := some 0 }
     Quiet s ∧ s.psq.portals[(0 : Fin 2)].state = .homing) ∧
    Quiet State.reset ∧ State.reset.psq.portals[(1 : Fin 2)] = .atReset .clear := by decide +kernel

theorem test_hyp_GateTimers_holdLong :
    (let s := withGate fun g => { g with state := .held, holdLong := some 0, target := some .close, op := some .moveClose }
     Quiet s ∧ s.psq.portals[(0 : Fin 2)].holdLong = some 0 ∧ s.psq.portals[(0 : Fin 2)].state = .held ∧
       s.psq.portals[(0 : Fin 2)].op = some .moveClose) ∧
    (let s := withGate fun g => { g with state := .held, holdLong := some 0, target := some .close }
     Quiet s ∧ s.psq.portals[(0 : Fin 2)].op ≠ some .moveClose) := by decide +kernel

theorem test_hyp_GateTimers_silent :
    let s := withGate fun g => { g with state := .held, clear := some 0, target := some .close, driveFresh := .stale }
    Quiet s ∧ s.psq.portals[(0 : Fin 2)].reportFlags.any closedLimitFlag = false ∧ s.psq.portals[(0 : Fin 2)].driveFresh ≠ .fresh := by
  decide +kernel

theorem test_hyp_ReadsReply_completions : Ready State.reset ∧ State.reset.psq.completions = [] ∧
    Ready { State.reset with psq.completions := [⟨.home, 1, .done, none, 0⟩] } := by decide +kernel

theorem test_hyp_GateDecisions :
    (let s := withGate fun g => { g with state := .open, position := some 0 }
     s.psq.portals[(0 : Fin 2)].state = .open ∧ claimGranted (.gate 0) s = true ∧ partHas (gateSlot 0) s = true ∧
       portalInstalled 0 s = true ∧ portalInstalled 1 s = false) ∧
    (let s := withGate fun g => { g with state := .held, op := some .moveOpen }
     s.psq.portals[(0 : Fin 2)].state = .held ∧ s.psq.portals[(0 : Fin 2)].target = none ∧ s.psq.portals[(0 : Fin 2)].presence = .clear) ∧
    (let s := withGate fun g => { g with state := .opening, target := some .open, op := some .moveOpen, reportValue := some 100 }
     s.psq.portals[(0 : Fin 2)].state = .opening ∧ s.psq.portals[(0 : Fin 2)].powerWait = false) ∧
    (let s := withGate fun g => { g with state := .closed, target := some .open, powerWait := true }
     s.psq.portals[(0 : Fin 2)].state = .closed ∧ s.psq.portals[(0 : Fin 2)].target = some .open) ∧
    (let s := withGate fun g => { g with state := .closing, target := some .close, closedBy := some .posture, op := some .moveClose }
     s.psq.portals[(0 : Fin 2)].closedBy = some .posture ∧ s.psq.portals[(0 : Fin 2)].state = .closing) ∧
    (let s := withGate fun g => { g with state := .warning, target := some .close, closedBy := some .posture }
     s.psq.portals[(0 : Fin 2)].closedBy = some .posture ∧ s.psq.portals[(0 : Fin 2)].state = .warning) ∧
    (let s := withGate fun g => { g with state := .closed, closedBy := some .posture }
     s.psq.portals[(0 : Fin 2)].driveFresh = .fresh ∧ claimGranted (.gate 0) s = true ∧
       (let u := unpowered 40 fun g => { g with state := .closed, closedBy := some .posture }
        u.psq.portals[(0 : Fin 2)].driveFresh = .fresh ∧ holdsClaim (.gate 0) u = false ∧
          claimGranted (.gate 0) (askWaiting (.gate 0) u.psq.config[(0 : Fin 2)].power u) = false) ∧
       (setGate 0 (fun g => { g with driveFresh := .stale }) s).psq.portals[(0 : Fin 2)].driveFresh ≠ .fresh) ∧
    Posture.dry ≠ .closed ∧ PostureCause.rise ≠ .reopen := by decide +kernel

theorem test_hyp_GateDecisions_reports :
    (let s := withGate fun g => { g with state := .closing, target := some .close, op := some .moveClose }
     claimGranted (.gate 0) s = true ∧ s.psq.portals[(0 : Fin 2)].target.isSome = true ∧ s.psq.portals[(0 : Fin 2)].powerWait = false ∧
       s.psq.portals[(0 : Fin 2)].state.moving = true ∧ holdsClaim (.gate 0) s = true) ∧
    (let s := withGate fun g => { g with state := .held, target := some .close, powerWait := true }
     claimGranted (.gate 0) s = true ∧ s.psq.portals[(0 : Fin 2)].powerWait = true ∧ s.psq.portals[(0 : Fin 2)].driveFresh = .fresh ∧
       s.psq.portals[(0 : Fin 2)].target = some .close ∧ s.psq.portals[(0 : Fin 2)].presence = .clear ∧
       s.psq.portals[(0 : Fin 2)].state ≠ .closing ∧
       (setGate 0 (fun g => { g with presence := .occupied }) s).psq.portals[(0 : Fin 2)].presence = .occupied ∧
       (let u := setGate 0 (fun g => { g with driveFresh := .stale }) s
        u.psq.portals[(0 : Fin 2)].driveFresh ≠ .fresh ∧ u.psq.portals[(0 : Fin 2)].state ≠ .fault)) ∧
    (let s := withGate fun g => { g with state := .warning, target := some .close, powerWait := true, presence := .occupied }
     claimGranted (.gate 0) s = true ∧ s.psq.portals[(0 : Fin 2)].presence = .occupied ∧ s.psq.portals[(0 : Fin 2)].state ≠ .held) ∧
    (let s := withGate fun g => { g with state := .closed }
     claimGranted (.gate 0) s = true ∧ s.psq.portals[(0 : Fin 2)].target = none ∧ s.psq.portals[(0 : Fin 2)].state.moving = false ∧
       s.psq.portals[(0 : Fin 2)].powerWait = false) ∧
    holdsClaim (.gate 0) State.reset = false ∧ claimGranted (.gate 0) State.reset = false := by decide +kernel

/-- Zone 1 at the level 80 with a lamp node, a floor of 20 and both claims GRANTED; `e` is the effective authority. -/
def lit (e : Effective) : State :=
  { withLamp with
    lda.claims := withLamp.lda.claims ++ [⟨.floor 0, 10, true⟩, ⟨.upper 0, 30, true⟩]
    lse.zones := upd withLamp.lse.zones 0 fun r => { r with desired := 80, output := 80, part := .full }
    cfl.slots := upd withLamp.cfl.slots 12 fun e' => { e' with effective := e, target := some 80 } }

theorem test_hyp_ZoneLevels :
    (lit .part).lse.zones[(0 : Fin 8)].test = false ∧ zoneInstalled 0 (lit .part) = true ∧ partHas (zoneSlot 0) (lit .part) = true ∧
    assigned (.lamp 0) (lit .part) = true ∧ (lit .part).lse.zones[(0 : Fin 8)].desired ≠ 0 ∧
    (lit .part).lse.config[(0 : Fin 8)].floor < (lit .part).lse.zones[(0 : Fin 8)].desired ∧
    (lit .part).lse.zones[(0 : Fin 8)].part ≠ .none ∧ claimGranted (.floor 0) (lit .part) = true ∧
    claimGranted (.upper 0) (lit .part) = true ∧ holdsClaim (.upper 0) (lit .part) = true ∧
    State.reset.lse.zones[(0 : Fin 8)].test = false ∧ zoneInstalled 0 State.reset = true ∧ partHas (zoneSlot 0) State.reset = true ∧
    assigned (.lamp 0) State.reset = false ∧ holdsClaim (.floor 0) State.reset = false ∧ claimGranted (.floor 0) State.reset = false ∧
    zoneInstalled 7 State.reset = false := by decide +kernel

theorem test_hyp_ZoneLevels_supervised :
    let s := lit .supervisor
    s.lse.zones[(0 : Fin 8)].test = false ∧ partHas (zoneSlot 0) s = false ∧ zoneInstalled 0 s = true ∧ holdsClaim (.floor 0) s = true ∧
    LoadSound s ∧ GrantedHead s ∧ s.pdx.roster.Nodup ∧ (∀ w : Fin 8, s.lse.config[w].shedPriority ≤ 8) ∧
    claimGranted (.floor 0) s = true ∧ claimGranted (.upper 0) s = true ∧
    (let w := { s with lda.claims := State.reset.lda.claims ++ [⟨.floor 0, 10, true⟩, ⟨.upper 0, 30, false⟩] }
     claimGranted (.upper 0) w = false ∧ holdsClaim (.upper 0) (runTask (.authority (zoneSlot 0)) w) = false) := by decide +kernel

theorem test_hyp_ZoneAmounts : 20 ≤ (ZoneConfig.default 0).floor ∧ (ZoneConfig.default 0).floor < 21 := by decide +kernel

theorem test_hyp_DayBands : Scene.default.t1 < Scene.default.t2 ∧ Scene.default.t2 < Scene.default.t3 ∧
    (∀ k : DayBand, DayBand.dusk.code < k.code → 50 < bandThreshold .default k) ∧
    bandThreshold .default .dusk * 7 / 8 ≤ 43 ∧ 42 < bandThreshold .default .dusk * 7 / 8 := ⟨by decide, by decide, fun k h => by cases k <;> simp_all [DayBand.code, bandThreshold, Scene.default], by decide, by decide⟩

theorem test_hyp_DayBands_delivered : bandAt State.reset.lse.scene State.reset.lse.band 30 = State.reset.lse.band ∧
    bandAt State.reset.lse.scene State.reset.lse.band 1200 ≠ State.reset.lse.band := by decide +kernel

theorem test_hyp_LampTests : Ready State.reset ∧ zoneIndex 1 State.reset = some 0 ∧ lampTestRefusal 0 State.reset = some .notReady ∧
    Ready withLamp ∧ zoneIndex 1 withLamp = some 0 ∧ lampTestRefusal 0 withLamp = none ∧ (askForTest 0 withLamp).1 = true ∧
    (let s := { withLamp with lda.limits.mains := 40 }
     Ready s ∧ lampTestRefusal 0 s = none ∧ withinGrant (.floor 0) (floorAmount s.lse.config[(0 : Fin 8)] 100) s = false ∧
       wouldGrant (.floor 0) (floorAmount s.lse.config[(0 : Fin 8)] 100) s = false) ∧
    (let s := { withLamp with lda.limits.mains := 52 }
     Ready s ∧ lampTestRefusal 0 s = none ∧ wouldGrant (.floor 0) (floorAmount s.lse.config[(0 : Fin 8)] 100) s = true ∧
       (askForTest 0 s).1 = false) ∧
    (let s := withZone fun z => { z with test := true, testTimer := some 0, steadyTimer := some 0, measured := some 50 }
     Quiet s ∧ s.lse.zones[(0 : Fin 8)].testTimer = some 0 ∧ s.lse.zones[(0 : Fin 8)].test = true ∧
       s.lse.zones[(0 : Fin 8)].steadyTimer = some 0) ∧
    Quiet State.reset ∧ State.reset.lse.zones[(7 : Fin 8)] = .atReset := by decide +kernel

/-- Zone 1 steady at an emitted level of 50. -/
def steadyLamp (f : Zone → Zone) : State :=
  setZone 0 (fun z => f { z with steady := true })
    { withLamp with cfl.slots := upd withLamp.cfl.slots 12 fun e => { e with emitted := some 50 } }

theorem test_hyp_LampTests_counts : withLamp.lse.zones[(0 : Fin 8)].steady = false ∧
    (let s := steadyLamp id
     0 < s.lse.config[(0 : Fin 8)].ratedCurrent ∧ s.lse.zones[(0 : Fin 8)].steady = true ∧ s.cfl.slots[zoneSlot 0].emitted = some 50 ∧
       s.lse.zones[(0 : Fin 8)].fault = false ∧ s.lse.zones[(0 : Fin 8)].lowCount < 2 ∧ (6 : Int) < Int.tdiv (30 * 50) 200 ∧
       ¬(7 : Int) < Int.tdiv (30 * 50) 200) ∧
    2 ≤ (steadyLamp fun z => { z with lowCount := 2 }).lse.zones[(0 : Fin 8)].lowCount ∧
    (steadyLamp fun z => { z with fault := true }).lse.zones[(0 : Fin 8)].goodCount < 2 ∧
    2 ≤ (steadyLamp fun z => { z with fault := true, goodCount := 2 }).lse.zones[(0 : Fin 8)].goodCount := by decide +kernel

/-- Zone 1 in a lamp test, with a claim for its floor and one for its upper part. -/
def tested (p : Posture) : State :=
  { steadyLamp fun z => { z with test := true, testTimer := some 4 } with
    lse.posture := p, lda.claims := State.reset.lda.claims ++ [⟨.floor 0, 15, true⟩, ⟨.upper 0, 35, true⟩] }

theorem test_hyp_LampTests_ends : (let s := tested .storm
     s.lse.zones[(0 : Fin 8)].test = true ∧ 2 ≤ s.lse.posture.code ∧ partHas (zoneSlot 0) s = true ∧ holdsClaim (.floor 0) s = true ∧
       holdsClaim (.upper 0) s = true) ∧
    (let s := tested .wet
     s.lse.posture.code < 2 ∧ zoneInstalled 0 s = true ∧ partHas (zoneSlot 0) s = true ∧ 0 < s.lse.config[(0 : Fin 8)].ratedCurrent ∧
       s.lse.zones[(0 : Fin 8)].steady = true) ∧
    (let s := tested .dry
     partHas (zoneSlot 0) { s with cfl.slots := upd s.cfl.slots 12 fun e => { e with effective := .supervisor, emitted := some 100 } } = false) ∧
    State.reset.lse.zones[(0 : Fin 8)].test = false := by decide +kernel

theorem test_hyp_EffectiveAuthority : configuredAuthority (gateSlot 0) State.reset = none ∧ configuredAuthority (pumpSlot 0) State.reset = some .part ∧
    slotInstalled (pumpSlot 0) State.reset = true ∧ commandedSlot (pumpSlot 0) = true ∧
    (let s := { commanded with cfl.authority.pumps := (Vector.replicate 6 .default).set 0 ⟨.shared, .hold, 0⟩ }
     configuredAuthority (pumpSlot 0) s = some .shared ∧ s.cfl.slots[pumpSlot 0].effective ≠ effectiveAuthority (pumpSlot 0) s) ∧
    configuredAuthority (pumpSlot 0) { State.reset with
      cfl.authority.pumps := (Vector.replicate 6 .default).set 0 ⟨.supervisor, .release, 0⟩ } = some .supervisor := by decide +kernel

/-- One rule in use, over all pumps and with no conditions. -/
def ruled (a : RuleAction) (value : Nat) (s : State) : State :=
  { s with cfl.rules.count := 1, cfl.rules.entries := Vector.replicate 32 { Rule.default with slots := .allPumps, action := a, value, standing := true } }

/-- Pump 0 at the supervisor's command, IDLE with a FRESH starter. -/
def ready : State := setPump 0 (fun p => { p with state := .idle, fresh := .fresh }) commanded

/-- Zone 1 at the supervisor's command, with a lamp driver of 50 units. -/
def litBySupervisor : State :=
  { withLamp with cfl.slots := upd withLamp.cfl.slots 12 fun e => { e with node := 20, effective := .supervisor } }

theorem test_hyp_SupervisoryCommands : Quiet State.reset ∧ matchSlot (cell 3 0 9 0 1 0 0) State.reset = none ∧
    Quiet commanded ∧ matchSlot (cell 3 5 8 0 1 0 0) commanded = some 0 ∧ matchSlot (cell 3 0 8 0 2 0 0) commanded = some 0 ∧
    commandedSlot 0 = true ∧ partHas 0 commanded = false ∧ slotRange 0 2 = false ∧ slotRange 0 1 = true ∧
    governingRule 0 commanded = none ∧ outputOf 0 = .pump 0 ∧ cellValue (cell 3 0 8 0 0 0 0) = 0 ∧
    (let s := { commanded with cfl.rules.count := 1, cfl.rules.entries := Vector.replicate 32 { Rule.default with action := .block } }
     Quiet s ∧ governingRule 0 s = some (1, { Rule.default with action := .block })) ∧
    (let s := withSlot 6 fun e => { e with node := 14 }
     Quiet s ∧ matchSlot (cell 3 0 14 0 1 0 0) s = some 6 ∧ commandedSlot 6 = false) ∧
    (let s := withSlot 0 fun e => { e with node := 8 }
     Quiet s ∧ matchSlot (cell 3 0 8 0 1 0 0) s = some 0 ∧ partHas 0 s = true) := by decide +kernel

theorem test_hyp_SupervisoryCommands_rules : AfterRule 0 commanded 0 0 none ∧ AfterRule 0 commanded 1 1 none ∧
    AfterRule 0 (ruled .clamp 0 commanded) 1 0 (some 1) ∧ AfterRule 0 (ruled .raise 100 commanded) 0 1 (some 1) ∧
    AfterRule 12 litBySupervisor 80 80 none :=
  ⟨.inl ⟨by decide +kernel, rfl, rfl⟩, .inl ⟨by decide +kernel, rfl, rfl⟩,
    .inr ⟨1, { Rule.default with slots := .allPumps, action := .clamp, value := 0, standing := true }, by decide +kernel, by decide, by decide, by decide, by decide, by decide⟩,
    .inr ⟨1, { Rule.default with slots := .allPumps, action := .raise, value := 100, standing := true }, by decide +kernel, by decide, by decide, by decide, by decide, by decide⟩,
    .inl ⟨by decide +kernel, rfl, rfl⟩⟩

theorem test_hyp_SupervisoryCommands_runs : (let p := commanded.pdx.pumps[(0 : Fin 6)]
     p.fresh ≠ .fresh ∧ p.up = true ∧ 0 ∈ commanded.pdx.roster) ∧
    (setPump 0 (fun p => { p with fresh := .fresh }) commanded).pdx.pumps[(0 : Fin 6)].fresh = .fresh ∧
    (Quiet ready ∧ matchSlot (cell 3 0 8 0 1 0 0) ready = some 0 ∧ partHas 0 ready = false ∧ anyStarting ready = false ∧
      ready.pdx.pumps[(0 : Fin 6)].state = .idle ∧ ready.pdx.pumps[(0 : Fin 6)].lastStop = none ∧
      wouldGrant (.pump 0) ready.pdx.config[(0 : Fin 6)].ratedPower ready = true) ∧
    anyStarting (setPump 1 (fun p => { p with state := .starting }) ready) = true ∧
    (let s := setPump 0 (fun p => { p with lastStop := some 0 }) ready
     (s.uptime - 0).toNat < s.pdx.config[(0 : Fin 6)].minRest) ∧
    (let s := setPump 0 (fun p => { p with starts := List.replicate 12 0 }) ready
     s.pdx.config[(0 : Fin 6)].startLimit ≤ (s.pdx.pumps[(0 : Fin 6)].starts.filter fun t => (s.uptime - t).toNat < 3600).length) ∧
    (let s := { ready with lda.limits.mains := 40, pdx.config := Vector.replicate 6 { PumpConfig.default with ratedPower := 450 } }
     withinGrant (.pump 0) 450 s = false ∧ wouldGrant (.pump 0) 450 s = false) := by decide +kernel

theorem test_hyp_SupervisoryCommands_zones : Quiet litBySupervisor ∧ matchSlot (cell 3 0 20 0 80 0 0) litBySupervisor = some 12 ∧
    commandedSlot 12 = true ∧ partHas 12 litBySupervisor = false ∧ slotRange 12 100 = true ∧ outputOf 12 = .zone 0 ∧
    assigned (.lamp 0) litBySupervisor = true ∧ assigned (.lamp 0) { litBySupervisor with siu.nodes := [] } = false ∧
    (let cfg := litBySupervisor.lse.config[(0 : Fin 8)]
     cfg.floor < 80 ∧ (10 : Nat) ≤ cfg.floor ∧ wouldGrant (.floor 0) (floorAmount cfg 80) litBySupervisor = true ∧
       wouldGrant (.upper 0) (upperAmount cfg 80) (askWaiting (.floor 0) (floorAmount cfg 80) litBySupervisor) = true ∧
       wouldGrant (.floor 0) (floorAmount cfg 80) { litBySupervisor with lda.limits.mains := 40 } = false ∧
       (let s := { litBySupervisor with lda.limits.mains := 52 }
        wouldGrant (.floor 0) (floorAmount cfg 80) s = true ∧
          wouldGrant (.upper 0) (upperAmount cfg 80) (askWaiting (.floor 0) (floorAmount cfg 80) s) = false)) := by decide +kernel

theorem test_hyp_SupervisoryCommands_standing : partHas 0 State.reset = true ∧
    (let s := ruled .clamp 0 { commanded with cfl.slots := upd commanded.cfl.slots 0 fun e => { e with target := some 1 } }
     slotInstalled 0 s = true ∧ partHas 0 s = false ∧ s.cfl.slots[(0 : Fin 20)].target = some 1 ∧
       (governingRule 0 s).any (fun e => e.2.standing && e.2.action = .clamp) = true ∧ s.pdx.pumps[(0 : Fin 6)].up = true) ∧
    (let s := ruled .raise 1 { commanded with cfl.slots := upd commanded.cfl.slots 0 fun e => { e with target := some 0 } }
     s.cfl.slots[(0 : Fin 20)].target = some 0 ∧ (governingRule 0 s).any (fun e => e.2.standing && e.2.action = .raise) = true) ∧
    (let s := { litBySupervisor with
        cfl.slots := upd litBySupervisor.cfl.slots 12 fun e => { e with target := some 80 }, cfl.rules.count := 1,
        cfl.rules.entries := Vector.replicate 32 { Rule.default with slots := .allZones, action := .clamp, value := 30, standing := true } }
     s.cfl.slots[(12 : Fin 20)].target = some 80 ∧ partHas 12 s = false ∧ slotInstalled 12 s = true ∧
       (governingRule 12 s).any (fun e => e.2.standing && e.2.action = .clamp && e.2.value = 30) = true) := by decide +kernel

theorem test_hyp_SupervisoryCommands_check : ready.pdx.pumps[(0 : Fin 6)].state = .idle ∧ 0 ∈ ready.pdx.roster ∧
    ready.pdx.pumps[(0 : Fin 6)].fresh = .fresh ∧ anyStarting ready = false ∧
    (let s := { ready with lda.claims := [⟨.reserve, 40, true⟩, ⟨.pump 0, 450, true⟩], lda.limits.mains := 40,
                           pdx.config := Vector.replicate 6 { PumpConfig.default with ratedPower := 450 } }
     withinGrant (.pump 0) 450 s = true ∧ wouldGrant (.pump 0) 450 s = false) ∧
    (let s := ruled .raise 1 { ready with cfl.slots := upd ready.cfl.slots 0 fun e => { e with target := some 0 } }
     slotInstalled 0 s = true ∧ partHas 0 s = false ∧ s.cfl.slots[(0 : Fin 20)].target = some 0 ∧
       (governingRule 0 s).any (fun e => e.2.standing && e.2.action = .raise && e.2.value = 1) = true) := by decide +kernel

theorem test_hyp_SupervisionLoss : (let s := { State.reset with cfl.supervision := .present, cfl.timer := some 0 }
     Quiet s ∧ s.cfl.supervision = .present ∧ s.cfl.timer = some 0) ∧ Quiet State.reset ∧ State.reset.cfl.supervision = .lost ∧
    (let s := { State.reset with cfl.supervision := .present, cfl.timer := some 30 }
     Quiet s ∧ s.cfl.timer ≠ some 0) := by decide +kernel

theorem test_hyp_SupervisionLoss_fallback : State.reset.site.flushOnLoss = true ∧
    ({ State.reset with site.flushOnLoss := false } : State).site.flushOnLoss = false ∧ partHas 0 State.reset = true ∧
    (let s := { commanded with cfl.authority.pumps := (Vector.replicate 6 .default).set 0 ⟨.supervisor, .drive, 1⟩ }
     slotInstalled 0 s = true ∧ partHas 0 s = false ∧ fallbackAction 0 s = some .drive ∧ fallbackValue 0 s = some 1 ∧ outputOf 0 = .pump 0 ∧
       s.pdx.pumps[(0 : Fin 6)].up = true) ∧
    (let s := { litBySupervisor with cfl.authority.zones := Vector.replicate 8 ⟨.drive, 80⟩ }
     slotInstalled 12 s = true ∧ partHas 12 s = false ∧ fallbackAction 12 s = some .drive ∧ fallbackValue 12 s = some 80 ∧
       outputOf 12 = .zone 0 ∧ assigned (.lamp 0) s = true) := by decide +kernel

theorem test_hyp_SupervisionLoss_order :
    putAhead [.posture .cfl .wet .dry .rise, .dispatch true] [.fallback 1, .reply 1 0 (pumpOk 0)] =
      [.fallback 1, .posture .cfl .wet .dry .rise, .dispatch true, .reply 1 0 (pumpOk 0)] ∧
    putAhead [.tier .battery] [.reapply 1, .fallback 12] = [.reapply 1, .fallback 12, .tier .battery] ∧
    (let c := cell 3 0 20 0 41 0 0
     putAhead [.posture .cfl .wet .dry .rise] [.tableReports, .command c] =
       [.tableReports, .command c, .posture .cfl .wet .dry .rise]) := by decide +kernel

/-- R165, R167: the loss runs pump 0, which raises the posture to WET, and drives zone 1 to 80; the standing rule of WET, which
clamps zones to 30, then visits the target written at the loss. -/
theorem test_loss_before_the_rise_it_causes :
    let s := { ready with
      cfl.supervision := .present, cfl.timer := some 0
      cfl.authority.pumps := Vector.replicate 6 ⟨.supervisor, .drive, 1⟩, cfl.authority.zones := Vector.replicate 8 ⟨.drive, 80⟩
      lse.config := upd ready.lse.config 0 fun c => { c with authority := .supervisor }
      cfl.slots := upd ready.cfl.slots 12 fun e => { e with effective := .supervisor }
      cfl.rules.count := 1
      cfl.rules.entries := ready.cfl.rules.entries.set 0 { Rule.default with
        slots := .allZones, posture := some .wet, action := .clamp, value := 30, standing := true } }
    let t := after .supervisionTimerExpiry s
    t.pev.posture = .wet ∧ t.cfl.slots[(0 : Fin 20)].source = some .fallback ∧ t.cfl.slots[(12 : Fin 20)].target = some 30 ∧
      t.cfl.slots[(12 : Fin 20)].source = some .clamp := by decide +kernel

/-- R142, R158: the notice gives SHARED pump 0 and zone 1 to the supervisor, and pump 1 then starts and raises the posture to the
takeover posture WET; the COMMAND of the same delivery is judged before that and is not refused, and WET then takes zone 1. -/
theorem test_command_of_one_delivery :
    let s := { setPump 1 (fun p => { p with state := .idle, fresh := .fresh }) withLamp with
      site.takeover := .wet, pdx.held := true, pdx.floatFresh := .fresh, pdx.highFloat := some 1
      cfl.authority.pumps := (Vector.replicate 6 .default).set 0 ⟨.shared, .hold, 0⟩
      lse.config := upd withLamp.lse.config 0 fun c => { c with authority := .shared }
      cfl.slots := upd withLamp.cfl.slots 12 fun e => { e with node := 20 } }
    let t := after (.portAArrival (cell 3 0 20 0 41 0 0)) s
    s.cfl.supervision = .lost ∧ t.pev.posture = .wet ∧ t.cfl.slots[(12 : Fin 20)].effective = .part ∧
      t.lif.queue.all (fun e => e.cell.selector.toNat ≠ Event.commandRefused.code) = true := by decide +kernel

theorem test_hyp_ReadsReply_overrun : Quiet replying ∧ replying.rqa.replySlot = true ∧ isRequest (.clearUnknown 0) = true := by decide +kernel

theorem test_hyp_ReadsReply : Ready State.reset ∧ State.reset.lif.queue.length ≤ 23 ∧ State.reset.sau.est = none ∧ Ready metered ∧
    metered.sau.est.isSome = true ∧ 10 < (11 : Byte).toNat ∧ 7 < (8 : Byte).toNat ∧ 5 < (6 : Byte).toNat ∧
    State.reset.pdx.roster.length < 3 := by decide +kernel

theorem test_hyp_ReadsReply_counters : Ready State.reset ∧ 3 < (4 : Byte).toNat ∧ 6 < (7 : Byte).toNat ∧ (15 : Byte).toNat < 16 ∧ 23 < (24 : Byte).toNat ∧
    (16 : Byte).toNat = 16 + 0 ∧ (23 : Byte).toNat = 16 + 7 ∧
    (let s := withNodes [node 1 .level]
     Ready s ∧ findNode 1 s = some (node 1 .level) ∧ (node 1 .level).channels[0]? = some (Channel.fresh .analog) ∧
       (node 1 .level).channels.length ≤ 7 ∧ findNode 2 s = none) := by decide +kernel

theorem test_hyp_CommissioningRequests : Ready State.reset ∧ stormy State.reset = false ∧ Ready (inPosture .storm) ∧ stormy (inPosture .storm) = true ∧
    identityRange 2 7 = false ∧ identityRange 2 6 = true ∧ State.reset.rqa.store.programmed[(1 : Fin 5)] = false ∧
    Ready { State.reset with rqa.store.programmed := Vector.replicate 5 true } := by decide +kernel

theorem test_hyp_WritesRefused : Ready State.reset ∧ tableKnown 0 = false ∧ tableKnown 14 = false ∧ tableKnown 25 = false ∧
    tableKnown 1 = true ∧ fieldKnown 1 14 = false ∧ tableKnown 13 = true ∧ fieldKnown 13 1 = true ∧
    Ready (inPosture .storm) ∧ stormy (inPosture .storm) = true ∧ (pumpIndex 1 (inPosture .storm)).isSome = true ∧
    (portalIndex 1 (inPosture .storm)).isSome = true ∧ (zoneIndex 2 (inPosture .storm)).isSome = true ∧
    siteRange 7 0 = false ∧ thresholdRange 0 (-1) = false ∧ limitRange 0 (-1) = false ∧
    fieldKnown 4 3 = true ∧ fieldWritable 4 3 = false ∧ pumpIndex 2 State.reset = none ∧ portalIndex 0 State.reset = none ∧
    zoneIndex 9 State.reset = none ∧ (pumpIndex 0 State.reset).isSome = true ∧ pumpRange 0 60 = false ∧
    (portalIndex 1 State.reset).isSome = true ∧ portalRange 3 99 = false ∧ (zoneIndex 1 State.reset).isSome = true ∧
    zoneRange 5 0 = false ∧ nodeRange 0 12 = false ∧ (findNode 1 (withNodes [node 1 .level])).isSome = true ∧ nodeRange 2 0 = false ∧
    authorityRange 2 5 2 = false ∧ authorityRange 2 12 101 = false ∧ authorityRange 1 19 3 = false ∧
    ruleRange 0 33 = false ∧ ruleRange 5 101 = false := by decide +kernel

theorem test_hyp_WritesRefused_tables : Ready State.reset ∧ stormy State.reset = false ∧
    -- an index outside the table
    (1 : Byte) ≠ 0 ∧ 15 < (16 : Byte).toNat ∧ 6 < (7 : Byte).toNat ∧ 19 < (20 : Byte).toNat ∧ 32 < (33 : Byte).toNat ∧
    (let s := { State.reset with sau.staging := some .default }
     Ready s ∧ s.sau.staging.isSome = true) ∧
    -- the order of a table's values
    (let s := withNodes [node 4 .depth]
     Ready s ∧ stormy s = false ∧ ((findNode 5 s).any fun m => m.role = .depth) = false ∧ { s with site.depthNode2 := 4 }.site.depthNode2 = 4) ∧
    thresholdRange 0 3001 = true ∧ Thresholds.default.stormLevel < (Thresholds.default.put 0 3001).wetLevel ∧
    thresholdRange 4 901 = true ∧ Thresholds.default.alertTime < (Thresholds.default.put 4 901).closeTime ∧
    thresholdRange 5 51 = true ∧ Thresholds.default.closeDepth < (Thresholds.default.put 5 51).alertDepth ∧
    limitRange 5 41 = true ∧ (Limits.default.put 5 41).depleted < (Limits.default.put 5 41).reserve ∧
    limitRange 6 42000 = true ∧ (Limits.default.put 6 42000).criticalMv ≤ Limits.default.cutoffMv ∧
    limitRange 8 44000 = true ∧ (Limits.default.put 8 44000).lowMv ≤ Limits.default.criticalMv ∧
    (let rungs := ({ State.reset.pdx.ladder with count := 1 }).rungs.toList.take 1
     (rungs.any fun r => r.start ≤ r.stop) = true) := by decide +kernel

theorem test_hyp_WritesRefused_devices :
    (let s := setPump 1 (fun p => { p with state := .starting, starts := [0, 0] }) State.reset
     Ready s ∧ pumpIndex 1 s = some 1 ∧ pumpRange 3 2 = true ∧ s.pdx.pumps[(1 : Fin 6)].state = .starting ∧ pumpRange 7 1 = true ∧
       1 < (s.pdx.pumps[(1 : Fin 6)].starts.filter fun t => (s.uptime - t).toNat < 3600).length) ∧
    (claimOf (.gate 0) (withGate id).lda.claims).isSome = true ∧ portalIndex 1 (withGate id) = some 0 ∧ portalRange 9 1000 = true ∧
    (let s := withGate fun g => { g with state := .opening }
     Ready s ∧ s.psq.portals[(0 : Fin 2)].state = .opening) ∧
    (let s := withZone fun z => { z with test := true }
     Ready s ∧ zoneIndex 1 s = some 0 ∧ zoneRange 6 2 = true ∧ s.lse.zones[(0 : Fin 8)].test = true) ∧
    (let s := withNodes [node 8 .pumpStarter]
     Ready s ∧ findNode 8 s = some (node 8 .pumpStarter) ∧ pumpRange 0 8 = true ∧
       ({ s with pdx.config := upd s.pdx.config 1 fun c => { c with starterNode := 8 } }).pdx.config[(1 : Fin 6)].starterNode = 8 ∧
       findNode 59 s = none ∧ portalRange 0 59 = true ∧ zoneRange 0 59 = true) ∧
    (let s := { withLamp with lse.config := upd withLamp.lse.config 1 fun c => { c with lampNode := 20 } }
     Ready s ∧ zoneIndex 2 s = some 1 ∧ s.lse.config[(1 : Fin 8)].channel = s.lse.config[(0 : Fin 8)].channel) := by decide +kernel

theorem test_hyp_WritesRefused_nodes :
    (let s := { withNodes [node 8 .pumpStarter] with pdx.config := upd State.reset.pdx.config 0 fun c => { c with starterNode := 8 } }
     Ready s ∧ findNode 8 s = some (node 8 .pumpStarter) ∧ s.pdx.config[(0 : Fin 6)].starterNode = 8 ∧
       (setPump 0 (fun p => { p with state := .running }) s).pdx.pumps[(0 : Fin 6)].state = .running ∧ nodeRange 0 0 = true ∧
       nodeRange 0 1 = true ∧ Role.ofCode 1 = some .level) ∧
    (let s := withNodes ((List.range 40).map fun a => node (a + 1) .level)
     Ready s ∧ findNode 41 s = none ∧ s.siu.nodes.length = 40) ∧
    (let s := withNodes (node 20 .level :: (List.range 16).map fun a =>
        { node (a + 21) .lampDriver with channels := List.replicate (if a = 0 then 7 else 8) (Channel.fresh .analog) })
     Ready s ∧ (s.siu.nodes.map fun m => m.channels.length).sum = 128 ∧ findNode 41 s = none ∧ findNode 20 s = some (node 20 .level) ∧
       Role.supply.minimumCount = 3 ∧ nodeRange 1 2 = true ∧ nodeRange 1 1 = true) ∧
    (let s := { withLamp with siu.nodes := [{ node 20 .lampDriver with channels := List.replicate 2 (Channel.fresh .analog) }],
                              lse.config := upd withLamp.lse.config 0 fun c => { c with channel := 1 } }
     Ready s ∧ s.lse.config[(0 : Fin 8)].lampNode = 20 ∧ s.lse.config[(0 : Fin 8)].channel = 1 ∧ Role.lampDriver.minimumCount = 1 ∧
       nodeRange 48 0 = true ∧ nodeRange 20 1 = true ∧ Role.lampDriver.channelKind 0 ≠ .digital ∧ nodeRange 17 (-1) = true ∧ nodeRange 16 4001 = true ∧
       ((Channel.fresh .analog).scaling.any fun y => -1 < y.rawLow) = true ∧
       (((Channel.fresh .analog).put 1 4000).scaling.any fun y => y.rawHigh < 4001) = true) := by decide +kernel

/-- R121: TABLE stands before BUSY, for a supply node that an assignment names and whose channels would not fit. -/
theorem test_role_table_before_busy : let full := node 1 .level :: (List.range 16).map fun a =>
      { node (a + 21) .lampDriver with channels := List.replicate (if a = 0 then 7 else 8) (Channel.fresh .analog) }
    let s := { withNodes full with site.levelNode := 1 }
    after (.writeFieldNodeTable 0 1 7) s = placeReply 5 1 (refused .table 0) s := by
  decide +kernel

theorem test_hyp_SettingsStored_follow : Ready State.reset ∧
    (siteRefusal 0 0 0 State.reset = none ∧ siteRefusal 6 0 0 State.reset = none ∧ siteRefusal 12 0 4 State.reset = none ∧
      siteRefusal 13 0 300 State.reset = none) ∧
    (let l := State.reset.lda.limits.put 5 40
     limitRange 5 40 = true ∧ l.reserveOk = true ∧ l.ordered = true ∧ State.reset.lda.tier.code = 0) := by decide +kernel

theorem test_hyp_SettingsStored : Ready State.reset ∧ siteRefusal 7 0 10 State.reset = none ∧ thresholdRange 0 1000 = true ∧
    (State.reset.pev.thresholds.put 0 1000).ordered = true ∧
    ((ladderPut State.reset.pdx.ladder 1 6 15000).any fun l => l.ordered) = true ∧
    ((ladderPut State.reset.pdx.ladder 0 0 0).any fun l => l.ordered) = true ∧
    limitRange 0 5000 = true ∧ (State.reset.lda.limits.put 0 5000).reserveOk = true ∧ (State.reset.lda.limits.put 0 5000).ordered = true ∧
    (rulePut State.reset.cfl.rules 0 0 32).isSome = true ∧ ruleRange 0 32 = true ∧
    (rulePut State.reset.cfl.rules 5 32 100).isSome = true ∧ ruleRange 5 100 = true := by decide +kernel

theorem test_hyp_DevicesStored : Ready State.reset ∧ stormy State.reset = false ∧
    fieldWritable 4 0 = true ∧ fieldKnown 4 0 = true ∧ nodeRefusal 0 59 11 State.reset = none ∧
    pumpIndex 1 State.reset = some 1 ∧ pumpRange 7 6 = true ∧ pumpBusy 1 7 6 State.reset = false ∧ starterTable 1 7 6 State.reset = false ∧
    portalIndex 1 State.reset = some 0 ∧ portalRange 3 4000 = true ∧ State.reset.psq.portals[(0 : Fin 2)].state.moving = false ∧
    holdsClaim (.gate 0) State.reset = false ∧ portalTable 0 3 4000 State.reset = false ∧
    zoneIndex 2 State.reset = some 1 ∧ zoneRange 4 30 = true ∧ State.reset.lse.zones[(1 : Fin 8)].test = false ∧
    zoneTable 1 4 30 State.reset = false ∧
    (scenePut State.reset.lse.scene 8 19 100).isSome = true ∧
    (authorityPut State.reset.cfl.authority 2 19 100).isSome = true ∧ authorityRange 2 19 100 = true := by decide +kernel

theorem test_hyp_DevicesStored_fields : (let s := withNodes [node 1 .level]
     Ready s ∧ nodeRefusal 0 1 0 s = none ∧ nodeRefusal 0 1 2 s = none ∧ nodeRefusal 1 1 2 s = none ∧ nodeRefusal 2 1 30 s = none ∧
       nodeRefusal 17 1 5000 s = none ∧ fieldWritable 4 17 = true ∧ fieldKnown 4 17 = true ∧
       findNode 1 s = some (node 1 .level) ∧ findNode 2 s = none ∧ (node 1 .level).channels[0]? = some (Channel.fresh .analog)) ∧
    (let c := State.reset.lse.scene
     60 < c.t2 ∧ c.t2 < c.t3 ∧ c.t2 ≤ 99999) := by decide +kernel

theorem test_hyp_DevicesStored_follow : Ready withLamp ∧ stormy withLamp = false ∧ slotInstalled 12 withLamp = true ∧
    slotInstalled 19 withLamp = false ∧
    (pumpIndex 0 withLamp = some 0 ∧ pumpRange 0 0 = true ∧ pumpBusy 0 0 0 withLamp = false ∧ starterTable 0 0 0 withLamp = false ∧
      pumpBusy 0 2 5000 withLamp = false) ∧
    (portalIndex 1 withLamp = some 0 ∧ portalRange 2 0 = true ∧ portalTable 0 0 0 withLamp = false ∧ portalTable 0 1 0 withLamp = false ∧
      portalTable 0 2 0 withLamp = false ∧ partHas (beaconSlot 0) withLamp = true ∧ partHas (stopSlot 0) withLamp = true) ∧
    (zoneIndex 1 withLamp = some 0 ∧ zoneRange 0 20 = true ∧ zoneTable 0 0 0 withLamp = false ∧ zoneTable 0 0 20 withLamp = false ∧
      zoneRange 2 2000 = true ∧ zoneTable 0 2 2000 withLamp = false ∧ partHas (zoneSlot 0) withLamp = true ∧
      assigned (.lamp 0) withLamp = true ∧ assigned (.lamp 0) State.reset = false) ∧
    (let s := { withLamp with cfl.slots := upd withLamp.cfl.slots 12 fun e => { e with effective := .supervisor } }
     Ready s ∧ zoneIndex 1 s = some 0 ∧ zoneTable 0 4 0 s = false ∧ partHas (zoneSlot 0) s = false ∧ assigned (.lamp 0) s = true ∧
       s.lse.zones[(0 : Fin 8)].test = false) ∧
    (let x := State.reset.lse.posture.code * 4 + State.reset.lse.band.code
     x < 20 ∧ (scenePut State.reset.lse.scene 1 x 100).isSome = true ∧ (scenePut State.reset.lse.scene 1 19 100).isSome = true ∧ x ≠ 19) ∧
    (tested .dry).lse.zones[(0 : Fin 8)].test = true ∧ zoneInstalled 0 (tested .dry) = true ∧ partHas (zoneSlot 0) (tested .dry) = true := by
  decide +kernel

end Sys2Proof.Tests
end

/-! PROOFS. The volume lookup (R2) and the smoothing (R15) of the Sump Accounting Unit. -/

namespace Sys2Proof.Machine

/-! ## The order of the breakpoints (R1) -/

theorem orderedPair_iff (p q : Breakpoint) : orderedPair p q = true ↔ p.level < q.level ∧ p.volume ≤ q.volume := by
  simp [orderedPair]

theorem orderedPoints_cons_cons (p q : Breakpoint) (rest : List Breakpoint) :
    orderedPoints (p :: q :: rest) = true ↔ orderedPair p q = true ∧ orderedPoints (q :: rest) = true := by
  simp [orderedPoints]

/-- A valid table has two breakpoints at least, so its first and its last differ. -/
theorem valid_cases {t : StageTable} (h : t.valid = true) :
    ∃ p q rest, t.used = p :: q :: rest ∧ orderedPoints (p :: q :: rest) = true := by
  obtain ⟨hcount, hord⟩ : t.countOk = true ∧ orderedPoints t.used = true := by simpa [StageTable.valid] using h
  have hlen : 2 ≤ t.used.length := by
    simp only [StageTable.countOk, Bool.and_eq_true, decide_eq_true_eq] at hcount
    simp [StageTable.used, hcount.1]
  match hused : t.used, hlen with
  | p :: q :: rest, _ => exact ⟨p, q, rest, rfl, hused ▸ hord⟩

theorem first_level_le_of_mem {p x : Breakpoint} {rest : List Breakpoint} (h : orderedPoints (p :: rest) = true)
    (hx : x ∈ p :: rest) : p.level ≤ x.level := by
  induction rest generalizing p with
  | nil => rw [List.mem_singleton.mp hx]
  | cons q rest ih =>
    obtain ⟨hpq, hrest⟩ := (orderedPoints_cons_cons p q rest).mp h
    obtain rfl | hmem := List.mem_cons.mp hx
    · exact le_rfl
    · exact ((orderedPair_iff p q).mp hpq).1.le.trans (ih hrest hmem)

/-! ## The interpolation between two neighbours (R2) -/

/-- The truncated interpolation of R2; `lookupFrom_before` ties it to the lookup. -/
def interpolate (p q : Breakpoint) (l : Int) : Int :=
  p.volume + Int.tdiv (((q.volume : Int) - p.volume) * (l - p.level)) ((q.level : Int) - p.level)

theorem interpolate_left (p q : Breakpoint) : interpolate p q p.level = p.volume := by simp [interpolate]

theorem interpolate_right {p q : Breakpoint} (h : orderedPair p q = true) : interpolate p q q.level = q.volume := by
  have hspan : ((q.level : Int) - p.level) ≠ 0 := by have := ((orderedPair_iff p q).mp h).1; omega
  rw [interpolate, Int.mul_tdiv_cancel _ hspan]
  omega

theorem interpolate_mono {p q : Breakpoint} (h : orderedPair p q = true) {l m : Int} (hl : p.level ≤ l) (hlm : l ≤ m) :
    interpolate p q l ≤ interpolate p q m := by
  obtain ⟨hlevel, hvolume⟩ := (orderedPair_iff p q).mp h
  have hrise : 0 ≤ (q.volume : Int) - p.volume := by omega
  have hspan : 0 < (q.level : Int) - p.level := by omega
  have hprod : ((q.volume : Int) - p.volume) * (l - p.level) ≤ ((q.volume : Int) - p.volume) * (m - p.level) :=
    Int.mul_le_mul_of_nonneg_left (by omega) hrise
  have hleft : 0 ≤ ((q.volume : Int) - p.volume) * (l - p.level) := Int.mul_nonneg hrise (by omega)
  rw [interpolate, interpolate, Int.tdiv_eq_ediv_of_nonneg hleft, Int.tdiv_eq_ediv_of_nonneg (hleft.trans hprod)]
  exact Int.add_le_add_left (Int.ediv_le_ediv hspan hprod) _

/-! ## The lookup from a breakpoint upward (R2) -/

theorem lookupFrom_before {q : Breakpoint} {l : Int} (h : l < q.level) (p : Breakpoint) (rest : List Breakpoint) :
    lookupFrom l (p :: q :: rest) = (interpolate p q l, false) := by
  simp [lookupFrom, h, interpolate]

theorem lookupFrom_past {q : Breakpoint} {l : Int} (h : (q.level : Int) ≤ l) (p : Breakpoint) (rest : List Breakpoint) :
    lookupFrom l (p :: q :: rest) = lookupFrom l (q :: rest) := by
  simp [lookupFrom, h]

theorem lookupFrom_over {pts : List Breakpoint} {last : Breakpoint} {l : Int} (h : orderedPoints pts = true)
    (hlast : pts.getLast? = some last) (hl : (last.level : Int) ≤ l) : lookupFrom l pts = ((last.volume : Int), true) := by
  induction pts with
  | nil => cases hlast
  | cons p rest ih =>
    cases rest with
    | nil => cases hlast; rfl
    | cons q rest =>
      have hrest := ((orderedPoints_cons_cons p q rest).mp h).2
      rw [List.getLast?_cons_cons] at hlast
      have hq := first_level_le_of_mem hrest (List.mem_of_getLast? hlast)
      rw [lookupFrom_past (by omega), ih hrest hlast]

theorem lookupFrom_between {pts : List Breakpoint} {i : Nat} {p q : Breakpoint} {l : Int} (h : orderedPoints pts = true)
    (hp : pts[i]? = some p) (hq : pts[i + 1]? = some q) (hpl : (p.level : Int) ≤ l) (hlq : l < q.level) :
    lookupFrom l pts = (interpolate p q l, false) := by
  induction pts generalizing i with
  | nil => cases hp
  | cons a rest ih =>
    cases rest with
    | nil => cases hq
    | cons b rest =>
      cases i with
      | zero => cases hp; cases hq; exact lookupFrom_before hlq _ _
      | succ i =>
        rw [List.getElem?_cons_succ] at hp hq
        have hrest := ((orderedPoints_cons_cons a b rest).mp h).2
        have hb := first_level_le_of_mem hrest (List.mem_of_getElem? hp)
        rw [lookupFrom_past (by omega), ih hrest hp hq]

theorem first_volume_le_lookupFrom {p : Breakpoint} {rest : List Breakpoint} {l : Int}
    (h : orderedPoints (p :: rest) = true) (hl : (p.level : Int) ≤ l) :
    (p.volume : Int) ≤ (lookupFrom l (p :: rest)).1 := by
  induction rest generalizing p with
  | nil => exact le_rfl
  | cons q rest ih =>
    obtain ⟨hpq, hrest⟩ := (orderedPoints_cons_cons p q rest).mp h
    obtain hlt | hge := lt_or_ge l (q.level : Int)
    · rw [lookupFrom_before hlt, ← interpolate_left p q]
      exact interpolate_mono hpq le_rfl hl
    · rw [lookupFrom_past hge]
      exact (Int.ofNat_le.mpr ((orderedPair_iff p q).mp hpq).2).trans (ih hrest hge)

theorem lookupFrom_mono {p : Breakpoint} {rest : List Breakpoint} {l m : Int} (h : orderedPoints (p :: rest) = true)
    (hl : (p.level : Int) ≤ l) (hlm : l ≤ m) : (lookupFrom l (p :: rest)).1 ≤ (lookupFrom m (p :: rest)).1 := by
  induction rest generalizing p with
  | nil => exact le_rfl
  | cons q rest ih =>
    obtain ⟨hpq, hrest⟩ := (orderedPoints_cons_cons p q rest).mp h
    obtain hlq | hql := lt_or_ge l (q.level : Int)
    · rw [lookupFrom_before hlq]
      obtain hmq | hqm := lt_or_ge m (q.level : Int)
      · rw [lookupFrom_before hmq]
        exact interpolate_mono hpq hl hlm
      · rw [lookupFrom_past hqm]
        calc interpolate p q l ≤ interpolate p q q.level := interpolate_mono hpq hl hlq.le
          _ = q.volume := interpolate_right hpq
          _ ≤ (lookupFrom m (q :: rest)).1 := first_volume_le_lookupFrom hrest hqm
    · rw [lookupFrom_past hql, lookupFrom_past (hql.trans hlm)]
      exact ih hrest hql

/-! ## The lookup of a table (R2) -/

section
variable {t : StageTable} {p q : Breakpoint} {rest : List Breakpoint}

theorem lookup_below {l : Int} (hused : t.used = p :: rest) (hl : l ≤ p.level) :
    lookup t l = ((p.volume : Int), false) := by
  simp [lookup, hused, hl]

/-- At the first level itself the two branches of `lookup` agree, so from there on the lookup is `lookupFrom`. -/
theorem lookup_eq_lookupFrom {l : Int} (hused : t.used = p :: q :: rest) (h : orderedPoints (p :: q :: rest) = true)
    (hl : (p.level : Int) ≤ l) : lookup t l = lookupFrom l (p :: q :: rest) := by
  obtain rfl | hlt := hl.eq_or_lt
  · have hpq := (orderedPair_iff p q).mp ((orderedPoints_cons_cons p q rest).mp h).1
    rw [lookup_below hused le_rfl, lookupFrom_before (by omega), interpolate_left]
  · simp [lookup, hused, hlt]

theorem lookup_mono (ht : t.valid = true) {l m : Int} (hlm : l ≤ m) : (lookup t l).1 ≤ (lookup t m).1 := by
  obtain ⟨p, q, rest, hused, h⟩ := valid_cases ht
  obtain hm | hm := le_or_gt m (p.level : Int)
  · rw [lookup_below hused hm, lookup_below hused (hlm.trans hm)]
  · rw [lookup_eq_lookupFrom hused h hm.le]
    obtain hl | hl := le_or_gt l (p.level : Int)
    · rw [lookup_below hused hl]
      exact first_volume_le_lookupFrom h hm.le
    · rw [lookup_eq_lookupFrom hused h hl.le]
      exact lookupFrom_mono h hl.le hlm

theorem lookup_at_most_first (ht : t.valid = true) {first : Breakpoint} (hfirst : t.used.head? = some first) {l : Int}
    (hl : l ≤ first.level) : lookup t l = ((first.volume : Int), false) := by
  obtain ⟨p, q, rest, hused, -⟩ := valid_cases ht
  rw [hused] at hfirst
  cases hfirst
  exact lookup_below hused hl

theorem lookup_at_least_last (ht : t.valid = true) {last : Breakpoint} (hlast : t.used.getLast? = some last) {l : Int}
    (hl : (last.level : Int) ≤ l) : lookup t l = ((last.volume : Int), true) := by
  obtain ⟨p, q, rest, hused, h⟩ := valid_cases ht
  rw [hused] at hlast
  have hp := first_level_le_of_mem h (List.mem_of_getLast? hlast)
  rw [lookup_eq_lookupFrom hused h (by omega), lookupFrom_over h hlast hl]

theorem lookup_between (ht : t.valid = true) {i : Nat} {l : Int} (hp : t.used[i]? = some p)
    (hq : t.used[i + 1]? = some q) (hpl : (p.level : Int) ≤ l) (hlq : l < q.level) :
    lookup t l = (interpolate p q l, false) := by
  obtain ⟨a, b, rest, hused, h⟩ := valid_cases ht
  rw [hused] at hp hq
  have ha := first_level_le_of_mem h (List.mem_of_getElem? hp)
  rw [lookup_eq_lookupFrom hused h (by omega), lookupFrom_between h hp hq hpl hlq]

end

/-- Settles O17: the three ranges from `lookupFrom`'s cases, and the bounds from monotony, by comparing a level with one at or
below the first breakpoint and one at or above the last. -/
theorem volumeLookup : Obligations.VolumeLookup := by
  intro t ht
  refine ⟨fun first hfirst l hl => lookup_at_most_first ht hfirst hl,
    fun last hlast l hl => lookup_at_least_last ht hlast hl,
    fun i p q l hp hq hpl hlq => lookup_between ht hp hq hpl hlq, ?_, fun l m hlm => lookup_mono ht hlm⟩
  intro first hfirst last hlast l
  constructor
  · have hlow := lookup_mono ht (min_le_left l (first.level : Int))
    rwa [lookup_at_most_first ht hfirst (min_le_right l _)] at hlow
  · have hhigh := lookup_mono ht (le_max_left l (last.level : Int))
    rwa [lookup_at_least_last ht hlast (le_max_right l _)] at hhigh

/-! ## The smoothing (R15) -/

theorem smooth_eq_fdiv (k : Nat) (old new : Int) : smooth k old new = old + Int.fdiv (new - old) (2 ^ k) := by
  rw [Int.fdiv_eq_ediv_of_nonneg _ (by positivity)]
  simp [smooth]

theorem smooth_zero (old new : Int) : smooth 0 old new = new := by simp [smooth]

/-- What the smoothing adds lies between 0 and the gap where the input is not below. -/
theorem smooth_from_below (k : Nat) {old new : Int} (h : old ≤ new) : old ≤ smooth k old new ∧ smooth k old new ≤ new := by
  have hnonneg : 0 ≤ (new - old) / (2 ^ k : Nat) := Int.ediv_nonneg (by omega) (by positivity)
  have hself : (new - old) / (2 ^ k : Nat) ≤ new - old := Int.ediv_le_self _ (by omega)
  unfold smooth
  omega

theorem smooth_eq_old_iff (k : Nat) {old new : Int} (h : old ≤ new) :
    smooth k old new = old ↔ new - old ≤ 2 ^ k - 1 := by
  have hpos : (0 : Int) < (2 ^ k : Nat) := by positivity
  have hnonneg : 0 ≤ (new - old) / (2 ^ k : Nat) := Int.ediv_nonneg (by omega) hpos.le
  calc smooth k old new = old ↔ (new - old) / (2 ^ k : Nat) < 1 := by unfold smooth; omega
    _ ↔ new - old < (2 ^ k : Nat) := by rw [Int.ediv_lt_iff_lt_mul hpos, one_mul]
    _ ↔ new - old ≤ 2 ^ k - 1 := by push_cast; omega

/-- What the smoothing adds lies between the gap and -1 where the input is below, as it rounds toward negative infinity. -/
theorem smooth_from_above (k : Nat) {old new : Int} (h : new < old) :
    smooth k old new ≤ old - 1 ∧ new ≤ smooth k old new := by
  have hpos : (0 : Int) < (2 ^ k : Nat) := by positivity
  have hneg : (new - old) / (2 ^ k : Nat) < 0 := Int.ediv_neg_of_neg_of_pos (by omega) hpos
  have hself : new - old ≤ (new - old) / (2 ^ k : Nat) :=
    (Int.le_ediv_iff_mul_le hpos).mpr (mul_le_of_one_le_right (by omega) (by omega))
  unfold smooth
  omega

theorem ordinaryEstimates_netRise (s : State) (e : Estimates) (v : Int) (o : OutflowStep) :
    (ordinaryEstimates s e v o).netRise = smooth s.site.shift e.netRise (Int.tdiv (v - e.volume) s.sau.periodLength) :=
  rfl

theorem ordinaryEstimates_inflow (s : State) (e : Estimates) (v : Int) (o : OutflowStep) :
    (ordinaryEstimates s e v o).inflow =
      smooth s.site.shift e.inflow (Int.tdiv (v - e.volume) s.sau.periodLength + o.outflow) :=
  rfl

/-- Settles O18, from the floored quotient of a gap that is non-negative or negative. -/
theorem smoothing : Obligations.Smoothing :=
  ⟨smooth_eq_fdiv, smooth_zero, fun k _ _ h => ⟨smooth_eq_old_iff k h, smooth_from_below k h⟩,
    fun k _ _ h => smooth_from_above k h,
    fun s e v o => ⟨ordinaryEstimates_netRise s e v o, ordinaryEstimates_inflow s e v o⟩⟩

end Sys2Proof.Machine

/-! PROOFS. The candidate (R25) and the evaluation (R26-R28) of the Posture Evaluator. -/

namespace Sys2Proof.Machine

/-! ## The terms of the conditions (R25) -/

theorem timeTerm_iff (limit : Nat) (s : State) :
    timeTerm limit s = true ↔ s.pev.held = false ∧ ∃ t : Int, s.pev.time = some t ∧ t ≤ limit := by
  simp [timeTerm, Option.any_eq_true]

theorem depthTerm_iff (n : Fin 2) (limit : Nat) (s : State) :
    depthTerm n limit s = true ↔
      s.pev.depthFresh[n] = .fresh ∧ ∃ d : Int, s.pev.depth[n] = some d ∧ (limit : Int) ≤ d := by
  simp [depthTerm, Option.any_eq_true]

theorem floatTerm_iff (copy : Option Int) (s : State) :
    floatTerm copy s = true ↔ s.pev.floatFresh = .fresh ∧ copy = some 1 := by
  simp [floatTerm]

/-- The two depth nodes stand for "either depth node" of R25. -/
theorem depthTerm_either_iff (limit : Nat) (s : State) :
    (depthTerm 0 limit s = true ∨ depthTerm 1 limit s = true) ↔
      ∃ (n : Fin 2) (d : Int), s.pev.depthFresh[n] = .fresh ∧ s.pev.depth[n] = some d ∧ (limit : Int) ≤ d := by
  simp only [depthTerm_iff, Fin.exists_fin_two, exists_and_left]

/-! ## The conditions (R25) -/

theorem closedHolds_iff (forced : Bool) (s : State) :
    closedHolds forced s = true ↔
      (s.pev.held = false ∧ ∃ t : Int, s.pev.time = some t ∧ t ≤ s.pev.thresholds.closeTime) ∨
      (∃ (n : Fin 2) (d : Int), s.pev.depthFresh[n] = .fresh ∧ s.pev.depth[n] = some d ∧
        (s.pev.thresholds.closeDepth : Int) ≤ d) ∨ forced = true := by
  simp only [closedHolds, Bool.or_eq_true, ← timeTerm_iff, ← depthTerm_either_iff, or_assoc]

theorem alertHolds_iff (s : State) :
    alertHolds s = true ↔
      (s.pev.held = false ∧ ∃ t : Int, s.pev.time = some t ∧ t ≤ s.pev.thresholds.alertTime) ∨
      ∃ (n : Fin 2) (d : Int), s.pev.depthFresh[n] = .fresh ∧ s.pev.depth[n] = some d ∧
        (s.pev.thresholds.alertDepth : Int) ≤ d := by
  simp only [alertHolds, Bool.or_eq_true, ← timeTerm_iff, ← depthTerm_either_iff, or_assoc]

theorem stormHolds_iff (s : State) :
    stormHolds s = true ↔
      (∃ l : Int, s.pev.level = some l ∧ (s.pev.thresholds.stormLevel : Int) ≤ l) ∨
      (s.pev.held = false ∧ ∃ q : Int, s.pev.inflow = some q ∧ (s.pev.thresholds.stormInflow : Int) ≤ q) ∨
      (s.pev.held = false ∧ ∃ d : Int, s.pev.deficit = some d ∧ 0 < d) ∨
      (s.pev.floatFresh = .fresh ∧ s.pev.highFloat = some 1) := by
  simp [stormHolds, floatTerm_iff, Option.any_eq_true, or_assoc]

theorem wetHolds_iff (s : State) :
    wetHolds s = true ↔
      (∃ l : Int, s.pev.level = some l ∧ (s.pev.thresholds.wetLevel : Int) ≤ l) ∨ 1 ≤ s.pev.pumpCount ∨
      (s.pev.floatFresh = .fresh ∧ s.pev.lowFloat = some 1) := by
  simp [wetHolds, floatTerm_iff, Option.any_eq_true, or_assoc]

/-! ## The candidate (R25) -/

theorem candidateWith_closed_iff (forced : Bool) (s : State) :
    candidateWith forced s = .closed ↔ closedHolds forced s = true := by
  unfold candidateWith
  split_ifs <;> simp_all

/-- Each posture below CLOSED is the candidate where its condition holds and no higher one does. -/
theorem candidateWith_below_iff (forced : Bool) (s : State) :
    (candidateWith forced s = .alert ↔ alertHolds s = true ∧ ¬closedHolds forced s = true) ∧
    (candidateWith forced s = .storm ↔ stormHolds s = true ∧ ¬alertHolds s = true ∧ ¬closedHolds forced s = true) ∧
    (candidateWith forced s = .wet ↔
      wetHolds s = true ∧ ¬stormHolds s = true ∧ ¬alertHolds s = true ∧ ¬closedHolds forced s = true) ∧
    (candidateWith forced s = .dry ↔
      ¬wetHolds s = true ∧ ¬stormHolds s = true ∧ ¬alertHolds s = true ∧ ¬closedHolds forced s = true) := by
  unfold candidateWith
  split_ifs <;> simp_all

/-! ## Announcing (R34) -/

/-- What an event offers to port A depends on the queue and on the part's address alone. -/
theorem emit_lif_of_pev (e : Event) (i : Nat) (v : Int) (hi lo : Nat) (s : State) (p : Pev) :
    (emit e i v hi lo { s with pev := p }).lif = (emit e i v hi lo s).lif := by
  unfold emit offer
  split <;> rfl

theorem changePosture_pev (new : Posture) (cause : PostureCause) (s : State) :
    (changePosture new cause s).pev = { s.pev with posture := new } := by
  simp [changePosture]

theorem changePosture_lif (new : Posture) (cause : PostureCause) (s : State) :
    (changePosture new cause s).lif = (emit .posture 0 new.code s.pev.posture.code cause.code s).lif := by
  simp only [changePosture, postUnordered_lif]
  exact emit_lif_of_pev ..

/-- The five announcements stand behind what waits, in some order (R34, log 3). -/
theorem changePosture_agenda (new : Posture) (cause : PostureCause) (s : State) :
    ∃ told, (changePosture new cause s).agenda = s.agenda ++ told ∧
      told.Perm (announcements new s.pev.posture cause) := by
  obtain ⟨told, tape, hperm, heq⟩ := postUnordered_cases (announcements new s.pev.posture cause)
    (emit .posture 0 new.code s.pev.posture.code cause.code { s with pev.posture := new })
  exact ⟨told, by simp [changePosture, heq], hperm⟩

/-! ## Evaluation (R26-R28, R31) -/

theorem evaluateWith_rise (cause : PostureCause) {s : State} (h : s.pev.posture.code < (candidateOf s).code) :
    evaluateWith cause s = changePosture (candidateOf s) cause
      { s with pev.candidate := candidateOf s, pev.descent := .stopped } :=
  if_pos h

theorem evaluateWith_descend (cause : PostureCause) {s : State} (h : (candidateOf s).code < s.pev.posture.code)
    (hopen : s.pev.posture ≠ .closed) :
    evaluateWith cause s = { s with pev.candidate := candidateOf s, pev.descent := descend s } :=
  (if_neg h.le.not_gt).trans (if_pos ⟨h, hopen⟩)

theorem evaluateWith_stay (cause : PostureCause) {s : State} (hle : (candidateOf s).code ≤ s.pev.posture.code)
    (h : s.pev.posture.code ≤ (candidateOf s).code ∨ s.pev.posture = .closed) :
    evaluateWith cause s = { s with pev.candidate := candidateOf s, pev.descent := .stopped } :=
  (if_neg hle.not_gt).trans (if_neg fun ⟨hlt, hopen⟩ => h.elim hlt.not_ge hopen)

/-- An evaluation that finds no higher candidate changes the kept candidate and the descent timer alone. -/
theorem evaluateWith_of_le (cause : PostureCause) {s : State} (hle : (candidateOf s).code ≤ s.pev.posture.code) :
    ∃ d, evaluateWith cause s = { s with pev.candidate := candidateOf s, pev.descent := d } := by
  by_cases h : s.pev.posture.code ≤ (candidateOf s).code ∨ s.pev.posture = .closed
  · exact ⟨_, evaluateWith_stay cause hle h⟩
  · obtain ⟨hlt, hopen⟩ := not_or.mp h
    exact ⟨_, evaluateWith_descend cause (not_le.mp hlt) hopen⟩

/-- An evaluation keeps every input it reads and the thresholds, and leaves its candidate. -/
theorem evaluateWith_pev (cause : PostureCause) (s : State) :
    ∃ p d, (evaluateWith cause s).pev = { s.pev with posture := p, candidate := candidateOf s, descent := d } := by
  by_cases h : s.pev.posture.code < (candidateOf s).code
  · exact ⟨candidateOf s, .stopped, by rw [evaluateWith_rise cause h, changePosture_pev]⟩
  · obtain ⟨d, heq⟩ := evaluateWith_of_le cause (not_lt.mp h)
    exact ⟨s.pev.posture, d, by rw [heq]⟩

/-! ## The level the PEV is handed (R10) -/

theorem pevCompletion_level (a : Accounting) (s : State) : (pevCompletion a s).pev.level = a.level := by
  obtain ⟨p, d, heq⟩ := evaluateWith_pev .rise _
  rw [pevCompletion, evaluate, heq]

theorem heldPeriod_usedLevel (c : HeldCause) (s : State) : (heldPeriod c s).sau.usedLevel = s.sau.usedLevel := by
  simp only [heldPeriod]
  split <;> simp

@[simp] theorem resume_usedLevel (t : Int) (s : State) : (resume t s).sau.usedLevel = s.sau.usedLevel := by
  unfold resume
  split <;> simp

@[simp] theorem emitImplausible_usedLevel (o : OutflowStep) (s : State) :
    (emitImplausible o s).sau.usedLevel = s.sau.usedLevel := by
  unfold emitImplausible
  split <;> simp

/-- A computed period, a first or an ordinary one, keeps the level it was computed from. -/
theorem computedPeriod_usedLevel (level : Int) (s : State) : (computedPeriod level s).sau.usedLevel = some level := by
  unfold computedPeriod
  split <;> simp [ordinaryPeriod, firstPeriod]

theorem account_of_held {s : State} {c : HeldCause} (h : heldCause s = some c) : account s = heldPeriod c s := by
  simp [account, h]

theorem account_of_computed {s : State} {level : Int} (h : heldCause s = none) (hl : s.sau.level = some level) :
    account s = computedPeriod level s := by
  simp [account, h, hl]

/-! ## The statements -/

/-- Settles O22: the order of the tests in `candidateWith`, with each condition read as R25 gives it, and the level of the last
computed period from the two modes of an expiry. -/
theorem candidateIsHighest : Obligations.CandidateIsHighest := by
  intro s
  dsimp only
  rw [← closedHolds_iff, ← alertHolds_iff, ← stormHolds_iff, ← wetHolds_iff]
  obtain ⟨halert, hstorm, hwet, hdry⟩ := candidateWith_below_iff s.pev.forced s
  refine ⟨candidateWith_closed_iff _ s, halert, hstorm, hwet, hdry, fun a => pevCompletion_level a s, fun hheld => ?_,
    fun l hnone hl => ?_⟩
  · obtain ⟨c, hc⟩ := Option.isSome_iff_exists.mp hheld
    rw [accountingOf, account_of_held hc, heldPeriod_usedLevel]
  · rw [accountingOf, account_of_computed hnone hl, computedPeriod_usedLevel]

/-- Settles O23: a rise is `changePosture` to the candidate; any other evaluation changes the kept candidate and the descent
timer alone. -/
theorem evaluationRises : Obligations.EvaluationRises := by
  intro s
  refine ⟨fun hrise => ?_, fun hle => ?_, ?_⟩
  · rw [evaluate, evaluateWith_rise .rise hrise]
    exact ⟨by rw [changePosture_pev], by rw [changePosture_pev], (changePosture_lif ..).trans (emit_lif_of_pev ..),
      changePosture_agenda ..⟩
  · obtain ⟨d, heq⟩ := evaluateWith_of_le .rise hle
    rw [evaluate, heq]
    exact ⟨rfl, rfl, rfl⟩
  · obtain ⟨p, d, heq⟩ := evaluateWith_pev .rise s
    rw [evaluate, heq]

end Sys2Proof.Machine

/-! PROOFS. What the blocks beside the Posture Evaluator leave alone: its state, and the announcements it takes its inputs
from. One lemma for each operation of the other blocks; an operation that calls others is settled by theirs. -/

namespace Sys2Proof.Machine

/-! ## The view of the PEV -/

/-- The announcements that leave what the CLOSED condition reads as it is (R24, R25): no REQUEST, which may write a threshold,
and no delivery and no accounting completion that reaches the PEV. -/
def Task.calm : Task → Bool
  | .request _ => false
  | .completionPev _ => false
  | .deliver .float _ => false
  | .deliver .depth1 _ => false
  | .deliver .depth2 _ => false
  | _ => true

/-- The announcements that ask for no reopening (R31). -/
def Task.noReopen : Task → Bool
  | .request c => c.selector ≠ 14
  | _ => true

theorem Task.noReopen_of_calm {t : Task} (h : t.calm = true) : t.noReopen = true := by
  cases t with
  | request c => cases h
  | _ => rfl

@[simp] theorem all_true {α : Type} (l : List α) : (l.all fun _ => true) = true := by simp

theorem all_noReopen_of_calm {ts : List Task} (h : ts.all Task.calm = true) : ts.all Task.noReopen = true := by
  rw [List.all_eq_true] at h ⊢
  exact fun t ht => Task.noReopen_of_calm (h t ht)

/-- The state of the PEV, and whether every waiting announcement is of a kind. -/
def State.pevView (p : Task → Bool) (s : State) : Pev × Bool := (s.pev, s.agenda.all p)

/-- What every block but the PEV keeps. -/
abbrev State.calm (s : State) : Pev × Bool := s.pevView Task.calm

section
variable {p : Task → Bool}

@[simp] theorem pevView_mk
    (pending agenda choices uptime running site checkOk lif siu sau pev pdx lda psq lse cfl rqa) :
    (State.mk pending agenda choices uptime running site checkOk lif siu sau pev pdx lda psq lse cfl rqa).pevView p =
      (pev, agenda.all p) :=
  rfl

@[simp] theorem pevView_eta (s : State) : (s.pev, s.agenda.all p) = s.pevView p := rfl

theorem pev_eq_of_pevView {s t : State} (h : t.pevView p = s.pevView p) : t.pev = s.pev := congrArg Prod.fst h

theorem agenda_all_of_pevView {s t : State} (h : t.pevView p = s.pevView p) : t.agenda.all p = s.agenda.all p :=
  congrArg Prod.snd h

@[simp] theorem pevView_ite (c : Prop) [Decidable c] (s t : State) :
    (if c then s else t).pevView p = if c then s.pevView p else t.pevView p :=
  apply_ite ..

@[simp] theorem pevView_snd_ite {α : Type} (c : Prop) [Decidable c] (x y : α × State) :
    (if c then x else y).2.pevView p = if c then x.2.pevView p else y.2.pevView p :=
  apply_ite (fun z : α × State => z.2.pevView p) ..

@[simp] theorem pevView_foldl {α : Type} {f : State → α → State} (h : ∀ s a, (f s a).pevView p = s.pevView p)
    (l : List α) (s : State) : (l.foldl f s).pevView p = s.pevView p := by
  induction l generalizing s with
  | nil => rfl
  | cons a l ih => simp [ih, h]

@[simp] theorem pevView_postAll (ts : List Task) (s : State) :
    (postAll ts s).pevView p = ((s.pevView p).1, (s.pevView p).2 && ts.all p) := by
  simp only [State.pevView, postAll_pev, postAll_agenda, List.all_append]

@[simp] theorem pevView_post (t : Task) (s : State) :
    (post t s).pevView p = ((s.pevView p).1, (s.pevView p).2 && p t) := by
  simp only [State.pevView, post_pev, post_agenda, List.all_append, List.all_cons, List.all_nil, Bool.and_true]

@[simp] theorem pevView_postUnordered (ts : List Task) (s : State) :
    (postUnordered ts s).pevView p = ((s.pevView p).1, (s.pevView p).2 && ts.all p) := by
  obtain ⟨told, tape, hperm, heq⟩ := postUnordered_cases ts s
  rw [heq, ← hperm.all_eq]
  exact pevView_postAll told { s with choices := tape }

@[simp] theorem pevView_offer (k : EntryKind) (c : Cell) (s : State) : (offer k c s).pevView p = s.pevView p := by
  simp only [State.pevView, offer_pev, offer_agenda]

@[simp] theorem pevView_emit (e : Event) (i : Nat) (v : Int) (hi lo : Nat) (s : State) :
    (emit e i v hi lo s).pevView p = s.pevView p := pevView_offer ..

@[simp] theorem pevView_updNode (a : Nat) (f : Node → Node) (s : State) : (updNode a f s).pevView p = s.pevView p := rfl

end

/-! ## The output image and the pass-through FIFO -/

@[simp] theorem calm_offerPassThrough (c : Cell) (s : State) : (offerPassThrough c s).calm = s.calm := by
  simp [offerPassThrough]

@[simp] theorem calm_writeSlot (k : Fin 20) (v : Int) (src : SlotSource) (s : State) :
    (writeSlot k v src s).calm = s.calm := by simp [writeSlot]

@[simp] theorem calm_engineWrite (k : Fin 20) (v : Int) (s : State) : (engineWrite k v s).calm = s.calm := by
  simp [engineWrite]

@[simp] theorem calm_engineKeep (k : Fin 20) (v : Int) (s : State) : (engineKeep k v s).calm = s.calm := by
  simp [engineKeep]

/-! ## The Load Account -/

@[simp] theorem calm_recomputeCAvail (s : State) : (recomputeCAvail s).calm = s.calm := by simp [recomputeCAvail]

@[simp] theorem calm_walk (o : Option Owner) (s : State) : (walk o s).calm = s.calm := by
  simp [walk, emitShed, Function.comp_def, Task.calm]

@[simp] theorem calm_askWaiting (o : Owner) (n : Nat) (s : State) : (askWaiting o n s).calm = s.calm := by
  simp [askWaiting]

@[simp] theorem calm_askAtOnce (o : Owner) (n : Nat) (s : State) : (askAtOnce o n s).2.calm = s.calm := by
  unfold askAtOnce; split <;> simp

@[simp] theorem calm_release (o : Owner) (s : State) : (release o s).calm = s.calm := by simp [release]

@[simp] theorem calm_deriveTier (s : State) : (deriveTier s).calm = s.calm := by
  simp [deriveTier, changeTier, Task.calm]

@[simp] theorem calm_lowBattery (v : Int) (s : State) : (lowBattery v s).calm = s.calm := by simp [lowBattery]

@[simp] theorem calm_takeSupply (c : Nat) (v : Int) (s : State) : (takeSupply c v s).calm = s.calm := by
  unfold takeSupply takeBattery; split <;> simp

@[simp] theorem calm_supplyDelivery (d : Delivery) (s : State) : (supplyDelivery d s).calm = s.calm := by
  unfold supplyDelivery; split <;> simp

/-! ## Pumps -/

@[simp] theorem calm_setPump (i : Fin 6) (f : Pump → Pump) (s : State) : (setPump i f s).calm = s.calm := by
  simp [setPump]

@[simp] theorem calm_evaluateRungs (l : Option Int) (s : State) : (evaluateRungs l s).calm = s.calm := by
  simp [evaluateRungs]

@[simp] theorem calm_pumpChanged (i : Fin 6) (p : PumpState) (c : PumpCause) (s : State) :
    (pumpChanged i p c s).calm = s.calm := by simp [pumpChanged, emitPumpState, Task.calm]

@[simp] theorem calm_toStopping (i : Fin 6) (c : StopCause) (s : State) : (toStopping i c s).calm = s.calm := by
  simp [toStopping]

@[simp] theorem calm_startPump (i : Fin 6) (o : Origin) (s : State) : (startPump i o s).calm = s.calm := by
  unfold startPump; split <;> simp

@[simp] theorem calm_toRunning (i : Fin 6) (c : PumpCause) (s : State) : (toRunning i c s).calm = s.calm := by
  simp [toRunning]

@[simp] theorem calm_unbiddenStop (i : Fin 6) (s : State) : (unbiddenStop i s).calm = s.calm := by simp [unbiddenStop]

@[simp] theorem calm_rotateAfterStop (i : Fin 6) (c : Option StopCause) (s : State) :
    (rotateAfterStop i c s).calm = s.calm := by simp [rotateAfterStop]

@[simp] theorem calm_confirmedStop (i : Fin 6) (s : State) : (confirmedStop i s).calm = s.calm := by
  simp [confirmedStop]

@[simp] theorem calm_enterFault (i : Fin 6) (r : PumpFault) (s : State) : (enterFault i r s).calm = s.calm := by
  simp [enterFault, toFaultSet]

@[simp] theorem calm_reportInFault (i : Fin 6) (f : Half) (s : State) : (reportInFault i f s).calm = s.calm := by
  simp [reportInFault, Task.calm]

@[simp] theorem calm_adopt (i : Fin 6) (s : State) : (adopt i s).calm = s.calm := by simp [adopt]

@[simp] theorem calm_starterReport (i : Fin 6) (f : Half) (s : State) : (starterReport i f s).calm = s.calm := by
  unfold starterReport; split <;> simp

@[simp] theorem calm_starterFresh (i : Fin 6) (f : Freshness) (s : State) : (starterFresh i f s).calm = s.calm := by
  simp [starterFresh]

@[simp] theorem calm_starterDelivery (i : Fin 6) (d : Delivery) (s : State) :
    (starterDelivery i d s).calm = s.calm := by unfold starterDelivery; dsimp only; (repeat' split) <;> simp [Task.calm]

@[simp] theorem calm_attempt (i : Fin 6) (s : State) : (attempt i s).calm = s.calm := by simp [attempt]

@[simp] theorem calm_endPowerWait (i : Fin 6) (s : State) : (endPowerWait i s).calm = s.calm := by simp [endPowerWait]

@[simp] theorem calm_askForStart (i : Fin 6) (s : State) : (askForStart i s).calm = s.calm := by simp [askForStart]

@[simp] theorem calm_demandStops (n : Nat) (s : State) : (demandStops n s).calm = s.calm := by
  induction n generalizing s with
  | zero => rfl
  | succ n ih =>
    unfold demandStops
    (repeat' split) <;> simp [ih]

@[simp] theorem calm_askAgain (i : Fin 6) (s : State) : (askAgain i s).calm = s.calm := by simp [askAgain]

@[simp] theorem calm_reexamine (s : State) : (reexamine s).calm = s.calm := by unfold reexamine; split <;> simp

@[simp] theorem calm_selectFrom (l : List (Fin 6)) (s : State) : (selectFrom l s).calm = s.calm := by
  induction l generalizing s with
  | nil => rfl
  | cons i l ih => simp [selectFrom, skipLimited, ih]

@[simp] theorem calm_selectStart (s : State) : (selectStart s).calm = s.calm := by simp [selectStart]

@[simp] theorem calm_dispatch (s : State) : (dispatch s).calm = s.calm := by simp [dispatch]

@[simp] theorem calm_dispatchOn (r : Bool) (s : State) : (dispatchOn r s).calm = s.calm := by
  simp [dispatchOn, recomputeDemand]

@[simp] theorem calm_pdxLevel (l : Int) (s : State) : (pdxLevel l s).calm = s.calm := by simp [pdxLevel]

@[simp] theorem calm_pdxCompletion (a : Accounting) (s : State) : (pdxCompletion a s).calm = s.calm := by
  simp [pdxCompletion]

@[simp] theorem calm_pdxPosture (p : Posture) (s : State) : (pdxPosture p s).calm = s.calm := by simp [pdxPosture]

@[simp] theorem calm_pdxFloat (d : Delivery) (s : State) : (pdxFloat d s).calm = s.calm := by
  unfold pdxFloat; split <;> simp

@[simp] theorem calm_pumpGranted (i : Fin 6) (s : State) : (pumpGranted i s).calm = s.calm := by simp [pumpGranted]

@[simp] theorem calm_pumpWithdrawn (i : Fin 6) (s : State) : (pumpWithdrawn i s).calm = s.calm := by
  simp [pumpWithdrawn]

@[simp] theorem calm_pumpAuthority (i : Fin 6) (s : State) : (pumpAuthority i s).calm = s.calm := by
  simp [pumpAuthority, Task.calm]

@[simp] theorem calm_idleRunCheck (i : Fin 6) (s : State) : (idleRunCheck i s).2.calm = s.calm := by
  unfold idleRunCheck; dsimp only; (repeat' split) <;> simp

@[simp] theorem calm_runCheck (i : Fin 6) (s : State) : (runCheck i s).2.calm = s.calm := by
  unfold runCheck; (repeat' split) <;> simp

@[simp] theorem calm_supervisoryStop (i : Fin 6) (s : State) : (supervisoryStop i s).calm = s.calm := by
  simp [supervisoryStop]

/-! ## Sump -/

@[simp] theorem calm_sauPosture (p : Posture) (s : State) : (sauPosture p s).calm = s.calm := by simp [sauPosture]

@[simp] theorem calm_levelDelivery (d : Delivery) (s : State) : (levelDelivery d s).calm = s.calm := by
  unfold levelDelivery; dsimp only; (repeat' split) <;> simp [Task.calm]

@[simp] theorem calm_flowDelivery (d : Delivery) (s : State) : (flowDelivery d s).calm = s.calm := by
  unfold flowDelivery; split <;> simp

@[simp] theorem calm_startPeriod (s : State) : (startPeriod s).calm = s.calm := by simp [startPeriod]

/-! ## Gates -/

@[simp] theorem calm_setGate (p : Fin 2) (f : Portal → Portal) (s : State) : (setGate p f s).calm = s.calm := by
  simp [setGate]

@[simp] theorem calm_writeStop (p : Fin 2) (s : State) : (writeStop p s).calm = s.calm := by
  unfold writeStop; split <;> simp

@[simp] theorem calm_changeGate (p : Fin 2) (g : GateState) (c : GateCause) (s : State) :
    (changeGate p g c s).calm = s.calm := by
  simp [changeGate, emitGateState, Task.calm]

@[simp] theorem calm_postEntry (op : Operation) (n : Nat) (o : OpOutcome) (d : Option Int) (s : State) :
    (postEntry op n o d s).calm = s.calm := by simp [postEntry, emitReady]

@[simp] theorem calm_endOpWith (p : Fin 2) (o : OpOutcome) (d : Option Int) (s : State) :
    (endOpWith p o d s).calm = s.calm := by unfold endOpWith; split <;> simp

@[simp] theorem calm_endOp (p : Fin 2) (o : OpOutcome) (s : State) : (endOp p o s).calm = s.calm := by simp [endOp]

@[simp] theorem calm_endOpIf (p : Fin 2) (op : Operation) (o : OpOutcome) (s : State) :
    (endOpIf p op o s).calm = s.calm := by simp [endOpIf]

@[simp] theorem calm_reserveOp (p : Fin 2) (op : Operation) (s : State) : (reserveOp p op s).calm = s.calm := by
  simp [reserveOp]

@[simp] theorem calm_enterGateFault (p : Fin 2) (r : GateFault) (s : State) : (enterGateFault p r s).calm = s.calm := by
  simp [enterGateFault]

@[simp] theorem calm_startHold (p : Fin 2) (s : State) : (startHold p s).calm = s.calm := by simp [startHold]

@[simp] theorem calm_toHeld (p : Fin 2) (c : GateCause) (s : State) : (toHeld p c s).calm = s.calm := by simp [toHeld]

@[simp] theorem calm_dropWait (p : Fin 2) (s : State) : (dropWait p s).calm = s.calm := by simp [dropWait]

@[simp] theorem calm_moveToward (p : Fin 2) (t : Goal) (c : GateCause) (s : State) :
    (moveToward p t c s).calm = s.calm := by simp [moveToward]

@[simp] theorem calm_holdInstead (p : Fin 2) (c : GateCause) (s : State) : (holdInstead p c s).calm = s.calm := by
  simp [holdInstead]

@[simp] theorem calm_beginMotion (p : Fin 2) (c : GateCause) (s : State) : (beginMotion p c s).calm = s.calm := by
  unfold beginMotion; split <;> simp

@[simp] theorem calm_motionStart (p : Fin 2) (c : GateCause) (s : State) : (motionStart p c s).calm = s.calm := by
  simp [motionStart, waitForPower]

@[simp] theorem calm_gateGranted (p : Fin 2) (s : State) : (gateGranted p s).calm = s.calm := by simp [gateGranted]

@[simp] theorem calm_gateWithdrawn (p : Fin 2) (s : State) : (gateWithdrawn p s).calm = s.calm := by
  simp [gateWithdrawn]

@[simp] theorem calm_warnGate (p : Fin 2) (b : ClosedBy) (c : GateCause) (s : State) :
    (warnGate p b c s).calm = s.calm := by simp [warnGate]

@[simp] theorem calm_closeHeld (p : Fin 2) (b : ClosedBy) (s : State) : (closeHeld p b s).calm = s.calm := by
  simp [closeHeld]

@[simp] theorem calm_reverseOpening (p : Fin 2) (b : ClosedBy) (c : GateCause) (s : State) :
    (reverseOpening p b c s).calm = s.calm := by simp [reverseOpening]

@[simp] theorem calm_closeForPosture (p : Fin 2) (s : State) : (closeForPosture p s).calm = s.calm := by
  unfold closeForPosture; (repeat' split) <;> simp

@[simp] theorem calm_closeIfClosed (p : Fin 2) (s : State) : (closeIfClosed p s).calm = s.calm := by
  simp [closeIfClosed]

@[simp] theorem calm_openFromWarning (p : Fin 2) (c : GateCause) (s : State) :
    (openFromWarning p c s).calm = s.calm := by simp [openFromWarning]

@[simp] theorem calm_openFromClosing (p : Fin 2) (c : GateCause) (s : State) :
    (openFromClosing p c s).calm = s.calm := by simp [openFromClosing]

@[simp] theorem calm_openFromStill (p : Fin 2) (c : GateCause) (s : State) : (openFromStill p c s).calm = s.calm := by
  simp [openFromStill]

@[simp] theorem calm_openForReopen (p : Fin 2) (s : State) : (openForReopen p s).calm = s.calm := by
  unfold openForReopen; (repeat' split) <;> simp

@[simp] theorem calm_psqPosture (p : Posture) (c : PostureCause) (s : State) : (psqPosture p c s).calm = s.calm := by
  simp [psqPosture]

@[simp] theorem calm_takePosition (p : Fin 2) (v : Int) (s : State) : (takePosition p v s).calm = s.calm := by
  simp [takePosition]

@[simp] theorem calm_reachOpen (p : Fin 2) (op : Operation) (s : State) : (reachOpen p op s).calm = s.calm := by
  simp [reachOpen]

@[simp] theorem calm_reachClosed (p : Fin 2) (s : State) : (reachClosed p s).calm = s.calm := by simp [reachClosed]

@[simp] theorem calm_losePosition (p : Fin 2) (s : State) : (losePosition p s).calm = s.calm := by simp [losePosition]

@[simp] theorem calm_adoptGate (p : Fin 2) (v : Int) (f : Half) (s : State) : (adoptGate p v f s).calm = s.calm := by
  simp [adoptGate]

@[simp] theorem calm_homingReport (p : Fin 2) (v : Int) (f : Half) (s : State) :
    (homingReport p v f s).calm = s.calm := by simp [homingReport]

@[simp] theorem calm_heldAtLimit (p : Fin 2) (s : State) : (heldAtLimit p s).calm = s.calm := by simp [heldAtLimit]

@[simp] theorem calm_positionedReport (p : Fin 2) (b : Option Int) (v : Int) (f : Half) (s : State) :
    (positionedReport p b v f s).calm = s.calm := by unfold positionedReport keepProgress; split <;> simp

@[simp] theorem calm_releaseKept (p : Fin 2) (f : Half) (s : State) : (releaseKept p f s).calm = s.calm := by
  simp [releaseKept]

@[simp] theorem calm_driveReportByState (p : Fin 2) (v : Int) (f : Half) (s : State) :
    (driveReportByState p v f s).calm = s.calm := by unfold driveReportByState; split <;> simp

@[simp] theorem calm_driveReport (p : Fin 2) (v : Int) (f : Half) (s : State) :
    (driveReport p v f s).calm = s.calm := by simp [driveReport]

@[simp] theorem calm_driveFreshness (p : Fin 2) (f : Freshness) (s : State) : (driveFreshness p f s).calm = s.calm := by
  simp [driveFreshness]

@[simp] theorem calm_driveDelivery (p : Fin 2) (d : Delivery) (s : State) : (driveDelivery p d s).calm = s.calm := by
  unfold driveDelivery; (repeat' split) <;> simp

@[simp] theorem calm_sweepOccupied (p : Fin 2) (s : State) : (sweepOccupied p s).calm = s.calm := by
  unfold sweepOccupied; split <;> simp

@[simp] theorem calm_recomputePresence (p : Fin 2) (s : State) : (recomputePresence p s).calm = s.calm := by
  unfold recomputePresence sweepClear; dsimp only; (repeat' split) <;> simp

@[simp] theorem calm_recomputeReadings (s : State) : (recomputeReadings s).calm = s.calm := by simp [recomputeReadings]

@[simp] theorem calm_presenceDelivery (p : Fin 2) (d : Delivery) (s : State) :
    (presenceDelivery p d s).calm = s.calm := by simp [presenceDelivery]

/-! ## Lighting -/

@[simp] theorem calm_setZone (z : Fin 8) (f : Zone → Zone) (s : State) : (setZone z f s).calm = s.calm := by
  simp [setZone]

@[simp] theorem calm_handClaim (o : Owner) (n : Nat) (s : State) : (handClaim o n s).calm = s.calm := by
  simp [handClaim]

@[simp] theorem calm_handFloor (z : Fin 8) (l : Nat) (s : State) : (handFloor z l s).calm = s.calm := by
  simp [handFloor]

@[simp] theorem calm_handUpper (z : Fin 8) (l : Nat) (s : State) : (handUpper z l s).calm = s.calm := by
  simp [handUpper]

@[simp] theorem calm_matchClaims (z : Fin 8) (a b : Nat) (s : State) : (matchClaims z a b s).calm = s.calm := by
  simp [matchClaims]

@[simp] theorem calm_computeOutput (z : Fin 8) (s : State) : (computeOutput z s).calm = s.calm := by
  simp [computeOutput]

@[simp] theorem calm_keepOutput (z : Fin 8) (src : SlotSource) (s : State) : (keepOutput z src s).calm = s.calm := by
  unfold keepOutput; split <;> simp

@[simp] theorem calm_litZone (z : Fin 8) (s : State) : (litZone z s).calm = s.calm := by simp [litZone]

@[simp] theorem calm_reevaluate (z : Fin 8) (s : State) : (reevaluate z s).calm = s.calm := by simp [reevaluate]

@[simp] theorem calm_clearTest (z : Fin 8) (s : State) : (clearTest z s).calm = s.calm := by simp [clearTest]

@[simp] theorem calm_endTest (z : Fin 8) (o : OpOutcome) (d : Option Int) (s : State) :
    (endTest z o d s).calm = s.calm := by simp [endTest]

@[simp] theorem calm_lowerSupervised (z : Fin 8) (u : Bool) (s : State) : (lowerSupervised z u s).calm = s.calm := by
  simp [lowerSupervised]

@[simp] theorem calm_lowerEngine (z : Fin 8) (u : Bool) (s : State) : (lowerEngine z u s).calm = s.calm := by
  simp [lowerEngine, fallBack]

@[simp] theorem calm_handAtOnce (o : Owner) (n : Nat) (s : State) : (handAtOnce o n s).calm = s.calm := by
  simp [handAtOnce]

@[simp] theorem calm_rematchSupervised (z : Fin 8) (s : State) : (rematchSupervised z s).calm = s.calm := by
  simp [rematchSupervised]

@[simp] theorem calm_rematch (z : Fin 8) (s : State) : (rematch z s).calm = s.calm := by simp [rematch]

@[simp] theorem calm_zoneGranted (z : Fin 8) (u : Bool) (s : State) : (zoneGranted z u s).calm = s.calm := by
  simp [zoneGranted]

@[simp] theorem calm_zoneWithdrawn (z : Fin 8) (u : Bool) (s : State) : (zoneWithdrawn z u s).calm = s.calm := by
  simp [zoneWithdrawn]

@[simp] theorem calm_giveZone (z : Fin 8) (s : State) : (giveZone z s).calm = s.calm := by
  simp [giveZone, releaseWaiting]

@[simp] theorem calm_zoneAuthority (z : Fin 8) (s : State) : (zoneAuthority z s).calm = s.calm := by
  simp [zoneAuthority]

@[simp] theorem calm_carryZone (z : Fin 8) (v : Nat) (s : State) : (carryZone z v s).2.calm = s.calm := by
  unfold carryZone meetClaim; dsimp only; (repeat' split) <;> simp

@[simp] theorem calm_zoneCheck (z : Fin 8) (v : Nat) (s : State) : (zoneCheck z v s).2.calm = s.calm := by
  unfold zoneCheck; split <;> simp

@[simp] theorem calm_postZones (s : State) : (postZones s).calm = s.calm := by
  simp [postZones, Function.comp_def, Task.calm]

@[simp] theorem calm_takeLuminance (v : Int) (s : State) : (takeLuminance v s).calm = s.calm := by simp [takeLuminance]

@[simp] theorem calm_luminanceDelivery (d : Delivery) (s : State) : (luminanceDelivery d s).calm = s.calm := by
  unfold luminanceDelivery; split <;> simp

@[simp] theorem calm_keepAllAspects (s : State) : (keepAllAspects s).calm = s.calm := by
  simp [keepAllAspects, keepAspects]

@[simp] theorem calm_gateTold (p : Fin 2) (g : GateState) (s : State) : (gateTold p g s).calm = s.calm := by
  simp [gateTold]

@[simp] theorem calm_lsePosture (p : Posture) (s : State) : (lsePosture p s).calm = s.calm := by simp [lsePosture]

@[simp] theorem calm_takeZone (z : Fin 8) (s : State) : (takeZone z s).calm = s.calm := by simp [takeZone]

@[simp] theorem calm_judgeSample (z : Fin 8) (l : Bool) (p : Int) (s : State) :
    (judgeSample z l p s).calm = s.calm := by simp [judgeSample, emitLampFault]

@[simp] theorem calm_lampSample (z : Fin 8) (c : Int) (s : State) : (lampSample z c s).calm = s.calm := by
  unfold lampSample measure; split <;> simp

@[simp] theorem calm_lampFreshness (z : Fin 8) (f : Freshness) (s : State) : (lampFreshness z f s).calm = s.calm := by
  simp [lampFreshness]

@[simp] theorem calm_lampDelivery (z : Fin 8) (d : Delivery) (s : State) : (lampDelivery z d s).calm = s.calm := by
  unfold lampDelivery; (repeat' split) <;> simp

/-! ## The Command Filter -/

@[simp] theorem calm_deriveAuthorities (s : State) : (deriveAuthorities s).calm = s.calm := by simp [deriveAuthorities]

@[simp] theorem calm_recomputeAuthority (s : State) : (recomputeAuthority s).calm = s.calm := by
  simp [recomputeAuthority, Function.comp_def, Task.calm]

@[simp] theorem calm_authorityTold (k : Fin 20) (s : State) : (authorityTold k s).calm = s.calm := by
  unfold authorityTold; split <;> simp

@[simp] theorem calm_recordNodes (s : State) : (recordNodes s).calm = s.calm := by simp [recordNodes]

@[simp] theorem calm_refuse (k : Fin 20) (r : Reason) (v : Int) (src : SlotSource) (n : Nat) (s : State) :
    (refuse k r v src n s).calm = s.calm := by simp [refuse, Task.calm]

@[simp] theorem calm_clampedEvent (k : Fin 20) (r : Reason) (a b : Int) (src : SlotSource) (n : Nat) (s : State) :
    (clampedEvent k r a b src n s).calm = s.calm := by simp [clampedEvent, Task.calm]

@[simp] theorem calm_drivePump (k : Fin 20) (i : Fin 6) (src : SlotSource) (a b : Int) (n : Option Nat) (s : State) :
    (drivePump k i src a b n s).calm = s.calm := by unfold drivePump; dsimp only; (repeat' split) <;> simp

@[simp] theorem calm_driveZone (k : Fin 20) (z : Fin 8) (src : SlotSource) (a b : Int) (n : Option Nat) (s : State) :
    (driveZone k z src a b n s).calm = s.calm := by unfold driveZone; split <;> simp

@[simp] theorem calm_driveSlot (k : Fin 20) (src : SlotSource) (a b : Int) (n : Option Nat) (s : State) :
    (driveSlot k src a b n s).calm = s.calm := by unfold driveSlot; split <;> simp

@[simp] theorem calm_judge (k : Fin 20) (v : Int) (s : State) : (judge k v s).calm = s.calm := by
  unfold judge; (repeat' split) <;> simp

@[simp] theorem calm_takeCommand (c : Cell) (s : State) : (takeCommand c s).calm = s.calm := by
  unfold takeCommand; split <;> simp

@[simp] theorem calm_reapplySlot (k : Fin 20) (s : State) : (reapplySlot k s).calm = s.calm := by
  unfold reapplySlot; (repeat' split) <;> simp

@[simp] theorem calm_postReapply (s : State) : (postReapply s).calm = s.calm := by
  simp [postReapply, Function.comp_def, Task.calm]

@[simp] theorem calm_cflPosture (p : Posture) (s : State) : (cflPosture p s).calm = s.calm := by simp [cflPosture]

@[simp] theorem calm_cflTier (t : Tier) (s : State) : (cflTier t s).calm = s.calm := by simp [cflTier]

@[simp] theorem calm_fallbackSlot (k : Fin 20) (s : State) : (fallbackSlot k s).calm = s.calm := by
  unfold fallbackSlot; (repeat' split) <;> simp

@[simp] theorem calm_reportFailedTables (s : State) : (reportFailedTables s).calm = s.calm := by
  simp [reportFailedTables]

/-! ## Replies, the flush and the tasks -/

@[simp] theorem calm_flushOnLoss (s : State) : (flushOnLoss s).calm = s.calm := by simp [flushOnLoss]

@[simp] theorem calm_placeReply (n i : Nat) (a : Answer) (s : State) : (placeReply n i a s).calm = s.calm := by
  simp [placeReply, countReply]

theorem calm_takeDelivery {a : Assignment} {d : Delivery} (h : (Task.deliver a d).calm = true) (s : State) :
    (takeDelivery a d s).calm = s.calm := by
  cases a with
  | float => cases h
  | depth1 => cases h
  | depth2 => cases h
  | _ => simp [takeDelivery]

@[simp] theorem calm_takePosture (r : Receiver) (p : Posture) (c : PostureCause) (s : State) :
    (takePosture r p c s).calm = s.calm := by unfold takePosture; split <;> simp

@[simp] theorem calm_takeClaim (o : Owner) (g : Bool) (s : State) : (takeClaim o g s).calm = s.calm := by
  cases o <;> simp [takeClaim, Task.calm]

end Sys2Proof.Machine

/-! PROOFS. The CLOSED latch (R31): what every announcement, request and command does to it. -/

namespace Sys2Proof.Machine

/-! ## Keeping the latch -/

/-- What a part of a handling that asks for no reopening keeps: calm announcements stay calm, a CLOSED posture stays CLOSED, and
its descent timer stays STOPPED. -/
structure KeepsLatch (s t : State) : Prop where
  calm : s.agenda.all Task.calm = true → t.agenda.all Task.calm = true
  closed : s.pev.posture = .closed → t.pev.posture = .closed
  descent : DescentSound s → DescentSound t

theorem descentSound_of_pev_eq {s t : State} (h : t.pev = s.pev) (hs : DescentSound s) : DescentSound t := by
  rwa [DescentSound, h]

theorem KeepsLatch.of_calm {s t : State} (h : t.calm = s.calm) : KeepsLatch s t where
  calm hs := (agenda_all_of_pevView h).trans hs
  closed hs := pev_eq_of_pevView h ▸ hs
  descent := descentSound_of_pev_eq (pev_eq_of_pevView h)

theorem KeepsLatch.trans {s t u : State} (h : KeepsLatch s t) (h' : KeepsLatch t u) : KeepsLatch s u where
  calm hs := h'.calm (h.calm hs)
  closed hs := h'.closed (h.closed hs)
  descent hs := h'.descent (h.descent hs)

/-! ## Evaluation (R26-R32) -/

theorem Posture.code_le_closed (p : Posture) : p.code ≤ Posture.closed.code := by cases p <;> decide

theorem Posture.stepDown_ne_closed {p : Posture} (h : p ≠ .closed) : p.stepDown ≠ .closed := by
  cases p with
  | closed => exact absurd rfl h
  | _ => decide

theorem calm_changePosture (new : Posture) (cause : PostureCause) (s : State) :
    (changePosture new cause s).calm = ({ s.pev with posture := new }, s.agenda.all Task.calm) := by
  simp [changePosture, announcements, Task.calm]

/-- At CLOSED no candidate is higher, and R31 shuts out the descent. -/
theorem evaluateWith_of_closed (cause : PostureCause) {s : State} (h : s.pev.posture = .closed) :
    evaluateWith cause s = { s with pev.candidate := candidateOf s, pev.descent := .stopped } :=
  evaluateWith_stay cause (h ▸ Posture.code_le_closed _) (.inr h)

/-- An evaluation leaves a CLOSED posture with a STOPPED timer, whatever it found (R27, R31). -/
theorem descentSound_evaluateWith (cause : PostureCause) (s : State) : DescentSound (evaluateWith cause s) := by
  by_cases hrise : s.pev.posture.code < (candidateOf s).code
  · rw [evaluateWith_rise cause hrise, DescentSound, changePosture_pev]
    exact fun _ => rfl
  by_cases hopen : (candidateOf s).code < s.pev.posture.code ∧ s.pev.posture ≠ .closed
  · rw [evaluateWith_descend cause hopen.1 hopen.2]
    exact fun hclosed => absurd hclosed hopen.2
  · rw [evaluateWith_stay cause (not_lt.mp hrise) (by rwa [not_and_or, not_lt, not_not] at hopen)]
    exact fun _ => rfl

theorem evaluateWith_agenda_calm (cause : PostureCause) (s : State) :
    (evaluateWith cause s).agenda.all Task.calm = s.agenda.all Task.calm := by
  by_cases hrise : s.pev.posture.code < (candidateOf s).code
  · rw [evaluateWith_rise cause hrise]
    exact congrArg Prod.snd (calm_changePosture ..)
  · obtain ⟨d, heq⟩ := evaluateWith_of_le cause (not_lt.mp hrise)
    rw [heq]

/-- An evaluation of other inputs keeps the latch: they touch neither the posture nor the agenda. -/
theorem keepsLatch_evaluateWith (cause : PostureCause) {s u : State} (hposture : u.pev.posture = s.pev.posture)
    (hagenda : u.agenda = s.agenda) : KeepsLatch s (evaluateWith cause u) where
  calm hs := by rwa [evaluateWith_agenda_calm, hagenda]
  closed hs := by rw [evaluateWith_of_closed cause (hposture.trans hs)]; exact hposture.trans hs
  descent _ := descentSound_evaluateWith cause u

theorem keepsLatch_pevDepth (n : Fin 2) (d : Delivery) (s : State) : KeepsLatch s (pevDepth n d s) := by
  unfold pevDepth
  split <;> exact keepsLatch_evaluateWith .rise rfl rfl

theorem keepsLatch_pevFloat (d : Delivery) (s : State) : KeepsLatch s (pevFloat d s) := by
  unfold pevFloat
  split <;> exact keepsLatch_evaluateWith .rise rfl rfl

/-- A descent never starts from CLOSED and never ends there (R29, R31). -/
theorem keepsLatch_descentEnds (s : State) : KeepsLatch s (descentEnds s) := by
  by_cases h : s.pev.descent = .running 0 ∧ s.pev.posture ≠ .dry ∧ s.pev.posture ≠ .closed
  · rw [descentEnds, if_pos h]
    obtain ⟨-, -, hopen⟩ := h
    exact {
      calm := fun hs => (congrArg Prod.snd (calm_changePosture ..)).trans hs
      closed := fun hs => absurd hs hopen
      descent := fun _ hclosed =>
        absurd (by simpa [changePosture_pev] using hclosed) (Posture.stepDown_ne_closed hopen) }
  · rw [descentEnds, if_neg h]
    exact .of_calm rfl

/-- An accepted REOPEN leaves the timer STOPPED (R33). -/
theorem descentSound_reopen (s : State) : DescentSound (reopen s) := by
  simp [DescentSound, reopen, changePosture_pev]

/-! ## Announcements -/

theorem keepsLatch_takeDelivery (a : Assignment) (d : Delivery) (s : State) : KeepsLatch s (takeDelivery a d s) := by
  cases a with
  | float => exact keepsLatch_pevFloat d s
  | depth1 => exact keepsLatch_pevDepth 0 d s
  | depth2 => exact keepsLatch_pevDepth 1 d s
  | _ => exact .of_calm (calm_takeDelivery rfl s)

/-- Of the calm announcements only a pump count reaches the PEV. -/
theorem calm_runTask {t : Task} (h : t.calm = true) (hcount : ∀ n, t ≠ .pumpCount n) (s : State) :
    (runTask t s).calm = s.calm := by
  cases t with
  | request c => cases h
  | completionPev a => cases h
  | pumpCount n => exact absurd rfl (hcount n)
  | deliver a d => exact calm_takeDelivery h s
  | _ => simp [runTask]

/-! ## Requests on pumps, gates and zones -/

@[simp] theorem calm_lockPump (i : Fin 6) (s : State) : (lockPump i s).calm = s.calm := by simp [lockPump, Task.calm]

@[simp] theorem calm_unlockPump (i : Fin 6) (s : State) : (unlockPump i s).calm = s.calm := by
  simp [unlockPump, Task.calm]

@[simp] theorem calm_clearPumpFault (i : Fin 6) (s : State) : (clearPumpFault i s).calm = s.calm := by
  simp [clearPumpFault, -release_pev]

@[simp] theorem calm_rotatePump (i : Fin 6) (s : State) : (rotatePump i s).calm = s.calm := by
  simp [rotatePump, Task.calm]

@[simp] theorem calm_lockRequest (i : Fin 6) (s : State) : (lockRequest i s).2.calm = s.calm := by simp [lockRequest]

@[simp] theorem calm_unlockRequest (i : Fin 6) (s : State) : (unlockRequest i s).2.calm = s.calm := by
  simp [unlockRequest]

@[simp] theorem calm_clearFaultRequest (i : Fin 6) (s : State) : (clearFaultRequest i s).2.calm = s.calm := by
  simp [clearFaultRequest]

@[simp] theorem calm_rotateRequest (i : Fin 6) (s : State) : (rotateRequest i s).2.calm = s.calm := by
  simp [rotateRequest]

@[simp] theorem calm_homeGate (p : Fin 2) (s : State) : (homeGate p s).calm = s.calm := by simp [homeGate]

@[simp] theorem calm_moveGateOpen (p : Fin 2) (s : State) : (moveGateOpen p s).calm = s.calm := by
  unfold moveGateOpen; split <;> simp

@[simp] theorem calm_moveGateClose (p : Fin 2) (s : State) : (moveGateClose p s).calm = s.calm := by
  unfold moveGateClose; split <;> simp

@[simp] theorem calm_gateAnswer {work : State → State} (h : ∀ s, (work s).calm = s.calm) (r : Option Status)
    (s : State) : (gateAnswer r work s).2.calm = s.calm := by
  cases r <;> simp [gateAnswer, h]

@[simp] theorem calm_homeGateRequest (p : Fin 2) (s : State) : (homeGateRequest p s).2.calm = s.calm := by
  simp [homeGateRequest]

@[simp] theorem calm_moveOpenRequest (p : Fin 2) (s : State) : (moveOpenRequest p s).2.calm = s.calm := by
  simp [moveOpenRequest]

@[simp] theorem calm_moveCloseRequest (p : Fin 2) (s : State) : (moveCloseRequest p s).2.calm = s.calm := by
  simp [moveCloseRequest]

@[simp] theorem calm_askForTest (z : Fin 8) (s : State) : (askForTest z s).2.calm = s.calm := by simp [askForTest]

@[simp] theorem calm_lampTest (z : Fin 8) (s : State) : (lampTest z s).2.calm = s.calm := by simp [lampTest]

@[simp] theorem calm_lampTestRequest (z : Fin 8) (s : State) : (lampTestRequest z s).2.calm = s.calm := by
  unfold lampTestRequest
  split
  · rfl
  · have h := calm_lampTest z s
    split <;> rename_i heq <;> rwa [heq] at h

@[simp] theorem calm_onPump {f : Fin 6 → State → Answer × State} (h : ∀ i s, (f i s).2.calm = s.calm) (n : Nat)
    (s : State) : (onPump n f s).2.calm = s.calm := by
  unfold onPump; split <;> simp [h]

@[simp] theorem calm_onPortal {f : Fin 2 → State → Answer × State} (h : ∀ p s, (f p s).2.calm = s.calm) (n : Nat)
    (s : State) : (onPortal n f s).2.calm = s.calm := by
  unfold onPortal; split <;> simp [h]

@[simp] theorem calm_onZone {f : Fin 8 → State → Answer × State} (h : ∀ z s, (f z s).2.calm = s.calm) (n : Nat)
    (s : State) : (onZone n f s).2.calm = s.calm := by
  unfold onZone; split <;> simp [h]

/-! ## Requests on the part's own records -/

@[simp] theorem calm_readOnly (f : State → Answer) (s : State) : (readOnly f s).2.calm = s.calm := by simp [readOnly]

@[simp] theorem calm_clearUnknownRequest (s : State) : (clearUnknownRequest s).2.calm = s.calm := by
  simp [clearUnknownRequest]

@[simp] theorem calm_statusRequest (page : Nat) (s : State) : (statusRequest page s).2.calm = s.calm := by
  unfold statusRequest; split <;> simp

@[simp] theorem calm_readCounters (g i : Nat) (s : State) : (readCounters g i s).2.calm = s.calm := by
  unfold readCounters clearOutOfSpan; (repeat' split) <;> simp

@[simp] theorem calm_openEditRequest (s : State) : (openEditRequest s).2.calm = s.calm := by
  simp [openEditRequest, openEdit]

@[simp] theorem calm_closeEditRequest (s : State) : (closeEditRequest s).2.calm = s.calm := by
  unfold closeEditRequest replaceTable writeThrough; (repeat' split) <;> simp

@[simp] theorem calm_abandonEditRequest (s : State) : (abandonEditRequest s).2.calm = s.calm := by
  simp [abandonEditRequest, abandonEdit]

@[simp] theorem calm_programRequest (f : Nat) (v : Int) (s : State) : (programRequest f v s).2.calm = s.calm := by
  unfold programRequest writeThrough; split <;> simp

@[simp] theorem calm_resetRequest (s : State) : (resetRequest s).2.calm = s.calm := by simp [resetRequest]

@[simp] theorem calm_senseRequest (s : State) : (senseRequest s).calm = s.calm := by simp [senseRequest, Task.calm]

/-- A refused REOPEN changes nothing (R33). -/
theorem reopenRequest_refused {s : State} (h : candidateWith false s = .closed) : (reopenRequest s).2 = s := by
  simp [reopenRequest, reopenAccepted, h]

theorem keepsLatch_closeRoadwayRequest (s : State) : KeepsLatch s (closeRoadwayRequest s).2 :=
  keepsLatch_evaluateWith .closeRoadway rfl rfl

/-! ## WRITE FIELD (R177) -/

theorem decideWrite_state (r : Option Answer) (v : Int) (work : State → State) (s : State) :
    (decideWrite r v work s).2 = s ∨ (decideWrite r v work s).2 = work s := by
  cases r <;> simp [decideWrite]

@[simp] theorem calm_decideWrite {work : State → State} (h : ∀ s, (work s).calm = s.calm) (r : Option Answer) (v : Int)
    (s : State) : (decideWrite r v work s).2.calm = s.calm := by
  cases r <;> simp [decideWrite, h]

@[simp] theorem calm_writeThrough (t : Table) (s : State) : (writeThrough t s).calm = s.calm := by simp [writeThrough]

@[simp] theorem calm_clearMark (a : Assignment) (s : State) : (clearMark a s).calm = s.calm := by simp [clearMark]

theorem keepsLatch_floatReassigned (s : State) : KeepsLatch s (floatReassigned s) := by
  have hpev : KeepsLatch s (pevFloatReassigned
      { s with pdx.lowFloat := none, pdx.highFloat := none, pdx.floatFresh := .never }) :=
    keepsLatch_evaluateWith .rise rfl rfl
  exact hpev.trans (.of_calm (by simp [floatReassigned, Task.calm]))

theorem keepsLatch_siteFollow (f : Nat) (s : State) : KeepsLatch s (siteFollow f s) := by
  unfold siteFollow
  split
  case h_3 => exact (KeepsLatch.of_calm (calm_clearMark .float s)).trans (keepsLatch_floatReassigned _)
  case h_4 => exact keepsLatch_evaluateWith .rise rfl rfl
  case h_5 => exact keepsLatch_evaluateWith .rise rfl rfl
  all_goals exact .of_calm (by simp [levelReassigned, flowReassigned, supplyReassigned])

@[simp] theorem calm_writeStage (f i : Nat) (v : Int) (s : State) : (writeStage f i v s).2.calm = s.calm := by
  unfold writeStage; (repeat' split) <;> simp

@[simp] theorem calm_writeRole (a : Nat) (r : Option Role) (s : State) : (writeRole a r s).calm = s.calm := by
  unfold writeRole; split <;> simp

@[simp] theorem calm_nodeWork (f a : Nat) (v : Int) (s : State) : (nodeWork f a v s).calm = s.calm := by
  unfold nodeWork; (repeat' split) <;> simp

@[simp] theorem calm_writeNodes (f a : Nat) (v : Int) (s : State) : (writeNodes f a v s).2.calm = s.calm := by
  simp [writeNodes]

@[simp] theorem calm_pumpFollow (i : Fin 6) (f : Nat) (s : State) : (pumpFollow i f s).calm = s.calm := by
  unfold pumpFollow; split <;> simp [Task.calm]

@[simp] theorem calm_writePump (f : Nat) (v : Int) (i : Fin 6) (s : State) : (writePump f v i s).2.calm = s.calm := by
  simp [writePump]

@[simp] theorem calm_writeLadder (f i : Nat) (v : Int) (s : State) : (writeLadder f i v s).2.calm = s.calm := by
  unfold writeLadder; split <;> simp

@[simp] theorem calm_limitFollow (f : Nat) (s : State) : (limitFollow f s).calm = s.calm := by
  simp [limitFollow, setReserve]

@[simp] theorem calm_writeLimits (f i : Nat) (v : Int) (s : State) : (writeLimits f i v s).2.calm = s.calm := by
  simp [writeLimits]

@[simp] theorem calm_gateUnknown (p : Fin 2) (s : State) : (gateUnknown p s).calm = s.calm := by simp [gateUnknown]

@[simp] theorem calm_portalFollow (p : Fin 2) (f : Nat) (s : State) : (portalFollow p f s).calm = s.calm := by
  unfold portalFollow; split <;> simp [presenceReassigned, writeAspects]

@[simp] theorem calm_writePortal (f : Nat) (v : Int) (p : Fin 2) (s : State) :
    (writePortal f v p s).2.calm = s.calm := by
  simp [writePortal]

@[simp] theorem calm_zoneRewired (z : Fin 8) (s : State) : (zoneRewired z s).calm = s.calm := by simp [zoneRewired]

@[simp] theorem calm_zoneFollow (z : Fin 8) (f : Nat) (s : State) : (zoneFollow z f s).calm = s.calm := by
  unfold zoneFollow; split <;> simp

@[simp] theorem calm_writeZone (f : Nat) (v : Int) (z : Fin 8) (s : State) : (writeZone f v z s).2.calm = s.calm := by
  simp [writeZone]

@[simp] theorem calm_sceneFollow (f i : Nat) (s : State) : (sceneFollow f i s).calm = s.calm := by
  unfold sceneFollow; split <;> simp

@[simp] theorem calm_writeScene (f i : Nat) (v : Int) (s : State) : (writeScene f i v s).2.calm = s.calm := by
  unfold writeScene; split <;> simp

@[simp] theorem calm_writeAuthority (f i : Nat) (v : Int) (s : State) : (writeAuthority f i v s).2.calm = s.calm := by
  unfold writeAuthority; split <;> simp

@[simp] theorem calm_writeRules (f i : Nat) (v : Int) (s : State) : (writeRules f i v s).2.calm = s.calm := by
  unfold writeRules; split <;> simp

theorem keepsLatch_writeSite (f i : Nat) (v : Int) (s : State) : KeepsLatch s (writeSite f i v s).2 := by
  obtain h | h := decideWrite_state (siteRefusal f i v s) v _ s
  · rw [writeSite, h]
    exact .of_calm rfl
  · rw [writeSite, h]
    exact (KeepsLatch.of_calm (by simp)).trans (keepsLatch_siteFollow f _)

theorem keepsLatch_writeThresholds (f i : Nat) (v : Int) (s : State) : KeepsLatch s (writeThresholds f i v s).2 := by
  obtain h | h := decideWrite_state _ v _ s
  · rw [writeThresholds, h]
    exact .of_calm rfl
  · rw [writeThresholds, h]
    exact keepsLatch_evaluateWith .rise rfl rfl

theorem keepsLatch_writeField (t f i : Nat) (v : Int) (s : State) : KeepsLatch s (writeField t f i v s).2 := by
  unfold writeField
  split
  · exact .of_calm rfl
  unfold writeOwner
  split
  case h_1 => exact keepsLatch_writeSite f i v s
  case h_3 => exact keepsLatch_writeThresholds f i v s
  all_goals exact .of_calm (by simp)

/-! ## Taking a request (R169) -/

@[simp] theorem calm_takeRequest {f : State → Answer × State} {s : State} (h : (f s).2.calm = s.calm) (n i : Nat) :
    (takeRequest n i f s).calm = s.calm := by
  simp [takeRequest, h, Task.calm]

theorem keepsLatch_takeRequest {f : State → Answer × State} {s : State} (h : KeepsLatch s (f s).2) (n i : Nat) :
    KeepsLatch s (takeRequest n i f s) := by
  unfold takeRequest
  split
  · exact .of_calm (by simp)
  · exact h.trans (.of_calm (by simp [Task.calm]))

/-- A request by its cell, REOPEN apart. -/
theorem keepsLatch_handleRequest {c : Cell} (h : c.selector ≠ 14) (s : State) : KeepsLatch s (handleRequest c s).2 := by
  fun_cases handleRequest c
  case case5 => exact keepsLatch_writeField ..
  case case13 heq => exact absurd (BitVec.eq_of_toNat_eq heq) h
  case case14 => exact keepsLatch_closeRoadwayRequest s
  all_goals exact .of_calm (by simp)

theorem keepsLatch_takeRequestCell {c : Cell} (h : c.selector ≠ 14) (s : State) :
    KeepsLatch s (takeRequestCell c s) := by
  unfold takeRequestCell
  split
  · exact .of_calm (by simp)
  · exact keepsLatch_takeRequest (keepsLatch_handleRequest h s) ..

theorem takeRequestCell_reopen {c : Cell} (h : c.selector = 14) (s : State) :
    takeRequestCell c s = takeRequest c.selector.toNat c.index.toNat reopenRequest s := by
  have hreopen : handleRequest c = reopenRequest := by simp [handleRequest, h]
  rw [takeRequestCell, if_neg (by rw [h]; decide), hreopen]

/-- A REQUEST cell that asks for a reopening is refused while the CLOSED condition holds without the flag. -/
theorem calm_takeRequestCell_reopen {c : Cell} (h : c.selector = 14) {s : State}
    (hs : candidateWith false s = .closed) : (takeRequestCell c s).calm = s.calm := by
  rw [takeRequestCell_reopen h]
  exact calm_takeRequest (congrArg State.calm (reopenRequest_refused hs)) ..

/-- Every announcement keeps the latch, but a REQUEST that asks for a reopening. -/
theorem keepsLatch_runTask {t : Task} (h : t.noReopen = true) (s : State) : KeepsLatch s (runTask t s) := by
  cases t with
  | request c => exact keepsLatch_takeRequestCell (by simpa [Task.noReopen] using h) s
  | completionPev a => exact keepsLatch_evaluateWith .rise rfl rfl
  | pumpCount n => exact keepsLatch_evaluateWith .rise rfl rfl
  | deliver a d => exact keepsLatch_takeDelivery a d s
  | _ => exact .of_calm (calm_runTask rfl (by simp) s)

/-! ## Timers and port B -/

@[simp] theorem calm_forPump {f : Fin 6 → State → State} (h : ∀ i s, (f i s).calm = s.calm) (n : Nat) (s : State) :
    (forPump n f s).calm = s.calm := by
  unfold forPump; split <;> simp [h]

@[simp] theorem calm_forPortal {f : Fin 2 → State → State} (h : ∀ p s, (f p s).calm = s.calm) (n : Nat) (s : State) :
    (forPortal n f s).calm = s.calm := by
  unfold forPortal; split <;> simp [h]

@[simp] theorem calm_forZone {f : Fin 8 → State → State} (h : ∀ z s, (f z s).calm = s.calm) (n : Nat) (s : State) :
    (forZone n f s).calm = s.calm := by
  unfold forZone; split <;> simp [h]

@[simp] theorem calm_spinUpEnds (i : Fin 6) (s : State) : (spinUpEnds i s).calm = s.calm := by simp [spinUpEnds]

@[simp] theorem calm_stopConfirmEnds (i : Fin 6) (s : State) : (stopConfirmEnds i s).calm = s.calm := by
  simp [stopConfirmEnds]

@[simp] theorem calm_minimumRunEnds (i : Fin 6) (s : State) : (minimumRunEnds i s).calm = s.calm := by
  simp [minimumRunEnds]

@[simp] theorem calm_restEnds (i : Fin 6) (s : State) : (restEnds i s).calm = s.calm := by simp [restEnds]

@[simp] theorem calm_limitEnds (i : Fin 6) (s : State) : (limitEnds i s).calm = s.calm := by simp [limitEnds]

@[simp] theorem calm_warningEnds (p : Fin 2) (s : State) : (warningEnds p s).calm = s.calm := by simp [warningEnds]

@[simp] theorem calm_clearEnds (p : Fin 2) (s : State) : (clearEnds p s).calm = s.calm := by simp [clearEnds]

@[simp] theorem calm_holdLongEnds (p : Fin 2) (s : State) : (holdLongEnds p s).calm = s.calm := by simp [holdLongEnds]

@[simp] theorem calm_progressEnds (p : Fin 2) (s : State) : (progressEnds p s).calm = s.calm := by simp [progressEnds]

@[simp] theorem calm_homingEnds (p : Fin 2) (s : State) : (homingEnds p s).calm = s.calm := by simp [homingEnds]

@[simp] theorem calm_testTimerEnds (z : Fin 8) (s : State) : (testTimerEnds z s).calm = s.calm := by
  simp [testTimerEnds]

@[simp] theorem calm_steadyEnds (z : Fin 8) (s : State) : (steadyEnds z s).calm = s.calm := by simp [steadyEnds]

@[simp] theorem calm_supervisionEnds (s : State) : (supervisionEnds s).calm = s.calm := by
  simp [supervisionEnds, Function.comp_def, Task.calm]

@[simp] theorem calm_tellEmission (k : Fin 20) (b : Bool) (s : State) : (tellEmission k b s).calm = s.calm := by
  unfold tellEmission; split <;> simp [zoneEmission]

@[simp] theorem calm_emitSlot (k : Fin 20) (s : State) : (emitSlot k s).calm = s.calm := by simp [emitSlot]

@[simp] theorem calm_portBSent (s : State) : (portBSent s).calm = s.calm := by
  unfold portBSent; (repeat' split) <;> simp

@[simp] theorem calm_nextA (s : State) : (nextA s).calm = s.calm := by unfold nextA; split <;> simp

@[simp] theorem calm_portASent (s : State) : (portASent s).calm = s.calm := by simp [portASent]

@[simp] theorem calm_noticeOf (c : Cell) (s : State) : (noticeOf c s).calm = s.calm := by
  unfold noticeOf notice; (repeat' split) <;> simp [Task.calm]

/-! ## What a command does itself -/

/-- The commands whose work hands on what is not calm: a REQUEST, deliveries, or a completion. -/
def handsOn : Instr → Bool
  | .portAArrival _ => true
  | .portBArrival _ => true
  | .accountingPeriodExpiry => true
  | .staleTimerExpiry _ => true
  | _ => false

/-- Apart from those, from the resets and from REOPEN, no command's own work touches the latch. -/
theorem keepsLatch_work {c : Instr} (hreset : mayReset c = false) (hhand : handsOn c = false)
    (hreopen : ∀ i, c ≠ .reopen i) (s : State) : KeepsLatch s (work c s) := by
  cases c with
  | portAArrival | portBArrival | accountingPeriodExpiry | staleTimerExpiry => cases hhand
  | powerUpReset | supplyReset | requestedReset | supplyReturn | portATransmitComplete => cases hreset
  | reopen i => exact absurd rfl (hreopen i)
  | descentTimerExpiry => exact keepsLatch_descentEnds s
  | closeRoadway i => exact keepsLatch_takeRequest (keepsLatch_closeRoadwayRequest s) ..
  | writeField | writeFieldSite | writeFieldStageTable | writeFieldPostureThresholds | writeFieldNodeTable
  | writeFieldPumpTable | writeFieldLevelLadder | writeFieldLoadLimits | writeFieldPortalTable | writeFieldZoneTable
  | writeFieldSceneTable | writeFieldAuthorityTable | writeFieldRuleTable =>
    exact keepsLatch_takeRequest (keepsLatch_writeField ..) ..
  | _ => exact .of_calm (by simp [work])

/-! ## The commands that hand on a REQUEST, deliveries or a completion -/

section
variable {p : Task → Bool}

@[simp] theorem pevView_refresh (n : Node) (s : State) : (refresh n s).pevView p = s.pevView p := by
  simp [refresh, emitFreshness]

@[simp] theorem pevView_takeValue (n : Node) (c : Cell) (s : State) : (takeValue n c s).pevView p = s.pevView p := by
  unfold takeValue
  dsimp only
  split <;> simp [emitWatch]

@[simp] theorem pevView_unknownSource (c : Cell) (s : State) : (unknownSource c s).pevView p = s.pevView p := by
  simp [unknownSource]

@[simp] theorem pevView_resume (t : Int) (s : State) : (resume t s).pevView p = s.pevView p := by simp [resume]

@[simp] theorem pevView_emitImplausible (o : OutflowStep) (s : State) :
    (emitImplausible o s).pevView p = s.pevView p := by
  unfold emitImplausible
  split <;> simp

@[simp] theorem pevView_account (s : State) : (account s).pevView p = s.pevView p := by
  unfold account computedPeriod
  (repeat' split) <;> simp [ordinaryPeriod, firstPeriod, heldPeriod]

end

theorem deliveryTasks_noReopen (a : Assignment) (d : Delivery) : (deliveryTasks a d).all Task.noReopen = true := by
  cases a <;> rfl

@[simp] theorem noReopen_deliverTo (a : Assignment) (told : Option Freshness) (d : Delivery) (s : State) :
    (deliverTo a told d s).pevView Task.noReopen = s.pevView Task.noReopen := by
  simp [deliverTo, deliveryTasks_noReopen]

@[simp] theorem noReopen_deliverCell (n : Node) (c : Cell) (fits changed : Bool) (s : State) :
    (deliverCell n c fits changed s).pevView Task.noReopen = s.pevView Task.noReopen := by
  simp [deliverCell]

@[simp] theorem noReopen_siuTake (c : Cell) (s : State) :
    (siuTake c s).pevView Task.noReopen = s.pevView Task.noReopen := by
  unfold siuTake
  split <;> simp

theorem noReopen_arriveB (c : Cell) (s : State) : (arriveB c s).pevView Task.noReopen = s.pevView Task.noReopen := by
  simp [arriveB, routeB, Task.noReopen]

theorem noReopen_staleEnds (a : Nat) (s : State) : (staleEnds a s).pevView Task.noReopen = s.pevView Task.noReopen := by
  unfold staleEnds
  split <;> simp [tellStale, emitFreshness, deliveryTasks_noReopen]

theorem noReopen_periodEnds (s : State) : (periodEnds s).pevView Task.noReopen = s.pevView Task.noReopen := by
  simp [periodEnds, Task.noReopen]

/-- What the routing of a port A cell announces (R141). -/
theorem routeA_cases (c : Cell) (s : State) : (routeA c s).pev = s.pev ∧
    ((routeA c s).agenda = s.agenda ∨ (routeA c s).agenda = s.agenda ++ [.command c] ∨
      c.kind = 4 ∧ (routeA c s).agenda = s.agenda ++ [.request c]) := by
  unfold routeA
  extract_lets own
  split_ifs <;> simp_all

theorem arriveA_pev (c : Cell) (s : State) : (arriveA c s).pev = s.pev := by
  unfold arriveA
  split_ifs
  · rfl
  · rfl
  · exact (routeA_cases ..).1.trans (pev_eq_of_pevView (calm_noticeOf c s))

/-- An arrival on port A announces what its notice raises, all calm, and a REQUEST only where the cell is one (R141, R142). -/
theorem arriveA_agenda {p : Task → Bool} (hcalm : ∀ t, t.calm = true → p t = true) {c : Cell}
    (hc : c.kind = 4 → p (.request c) = true) {s : State} (hs : s.agenda = []) : (arriveA c s).agenda.all p = true := by
  have hnotice : (noticeOf c s).agenda.all p = true := by
    have h := agenda_all_of_pevView (calm_noticeOf c s)
    rw [hs, List.all_nil, List.all_eq_true] at h
    exact List.all_eq_true.mpr fun t ht => hcalm t (h t ht)
  unfold arriveA
  split_ifs
  · simp [hs]
  · simp [hs]
  · obtain ⟨-, h | h | ⟨hkind, h⟩⟩ := routeA_cases c (noticeOf c s)
    · rwa [h]
    · rw [h, List.all_append, hnotice, List.all_cons, hcalm _ rfl, List.all_nil, Bool.and_self, Bool.and_self]
    · rw [h, List.all_append, hnotice, List.all_cons, hc hkind, List.all_nil, Bool.and_self, Bool.and_self]

/-! ## Handlings -/

/-- A condition that the announcements of a kind keep, each raising only announcements of that kind, a handling that begins with
such announcements keeps. -/
theorem settle_keeps_of_agenda {P : State → Prop} {p : Task → Bool} (wait : ∀ l s, P s → P { s with agenda := l })
    (task : ∀ t s, p t = true → s.agenda = [] → P s → P (runTask t s) ∧ (runTask t s).agenda.all p = true) {s : State}
    (h : P s) (ha : s.agenda.all p = true) : P (settle s) := by
  have go : ∀ n s, P s → s.agenda.all p = true → P (drain n s) := by
    intro n
    induction n with
    | zero => exact fun s h _ => h
    | succ n ih =>
      intro s h ha
      unfold drain
      split
      · exact h
      next t rest heq =>
        rw [heq, List.all_cons, Bool.and_eq_true] at ha
        obtain ⟨ht, hrest⟩ := ha
        obtain ⟨hkept, hraised⟩ := task t { s with agenda := [] } ht rfl (wait [] s h)
        exact ih _ (wait _ _ hkept) (by simp only [putAhead_all, hraised, hrest, Bool.and_true])
  exact go _ s h ha

/-- A handling without a REQUEST that asks for a reopening leaves a CLOSED posture CLOSED. -/
theorem settle_closed {s : State} (h : s.pev.posture = .closed) (ha : s.agenda.all Task.noReopen = true) :
    (settle s).pev.posture = .closed :=
  settle_keeps_of_agenda (P := fun s => s.pev.posture = .closed) (fun _ _ h => h)
    (fun _ s ht hs h => by
      have hkept := keepsLatch_runTask ht s
      exact ⟨hkept.closed h, all_noReopen_of_calm (hkept.calm (by rw [hs, List.all_nil]))⟩) h ha

/-- CLOSED, with the CLOSED condition holding without the flag: a REOPEN is refused (R33). -/
def Shut (s : State) : Prop := s.pev.posture = .closed ∧ candidateWith false s = .closed

theorem shut_of_pev_eq {s t : State} (h : t.pev = s.pev) (hs : Shut s) : Shut t := by
  obtain ⟨hposture, hcandidate⟩ := hs
  rw [candidateWith_closed_iff] at hcandidate
  refine ⟨h ▸ hposture, (candidateWith_closed_iff ..).mpr ?_⟩
  simpa only [closedHolds, timeTerm, depthTerm, h] using hcandidate

/-- A pump count is no term of the CLOSED condition (R25). -/
theorem shut_pevPumpCount (n : Nat) {s : State} (hs : Shut s) : Shut (pevPumpCount n s) := by
  obtain ⟨hposture, hcandidate⟩ := hs
  have heq := evaluateWith_of_closed .rise (s := { s with pev.pumpCount := n }) hposture
  rw [pevPumpCount, evaluate, heq]
  exact ⟨hposture, (candidateWith_closed_iff ..).mpr ((candidateWith_closed_iff false s).mp hcandidate)⟩

/-- The announcements of a handling that begins with a REQUEST to reopen. -/
def Task.calmOrReopen : Task → Bool
  | .request c => c.selector = 14
  | t => t.calm

theorem Task.calmOrReopen_of_calm {t : Task} (h : t.calm = true) : t.calmOrReopen = true := by
  cases t with
  | request c => cases h
  | _ => exact h

/-- A handling that asks for a reopening of a part that is shut leaves it shut. -/
theorem settle_shut {s : State} (h : Shut s) (ha : s.agenda.all Task.calmOrReopen = true) : Shut (settle s) := by
  refine settle_keeps_of_agenda (fun _ _ h => h) (fun t s ht hs h => ?_) h ha
  suffices hkept : Shut (runTask t s) ∧ (runTask t s).agenda.all Task.calm = true by
    refine ⟨hkept.1, List.all_eq_true.mpr fun u hu => Task.calmOrReopen_of_calm ?_⟩
    exact List.all_eq_true.mp hkept.2 u hu
  have of_calm : (runTask t s).calm = s.calm → Shut (runTask t s) ∧ (runTask t s).agenda.all Task.calm = true :=
    fun heq => ⟨shut_of_pev_eq (pev_eq_of_pevView heq) h, by rw [agenda_all_of_pevView heq, hs, List.all_nil]⟩
  cases t with
  | request c => exact of_calm (calm_takeRequestCell_reopen (of_decide_eq_true ht) h.2)
  | pumpCount n => exact ⟨shut_pevPumpCount n h, (evaluateWith_agenda_calm ..).trans (by rw [hs, List.all_nil])⟩
  | _ => exact of_calm (calm_runTask (by exact ht) (by simp) s)

/-! ## The CLOSED posture over a command (R31) -/

theorem settle_closed_of_keepsLatch {s t : State} (h : KeepsLatch s t) (hs : s.agenda = [])
    (hclosed : s.pev.posture = .closed) : (settle t).pev.posture = .closed :=
  settle_closed (h.closed hclosed) (all_noReopen_of_calm (h.calm (by rw [hs, List.all_nil])))

theorem settle_closed_of_pevView {s t : State} (h : t.pevView Task.noReopen = s.pevView Task.noReopen)
    (hs : s.agenda = []) (hclosed : s.pev.posture = .closed) : (settle t).pev.posture = .closed :=
  settle_closed (pev_eq_of_pevView h ▸ hclosed) (by rw [agenda_all_of_pevView h, hs, List.all_nil])

/-- A cell on port A reopens nothing but by an accepted REOPEN. -/
theorem settle_arriveA_closed {c : Cell} {s : State} (hs : s.agenda = []) (hclosed : s.pev.posture = .closed)
    (hcell : c.kind = 4 → c.selector = 14 → candidateWith false s = .closed) :
    (settle (arriveA c s)).pev.posture = .closed := by
  by_cases h : c.kind = 4 ∧ c.selector = 14
  · have hshut : Shut (arriveA c s) := shut_of_pev_eq (arriveA_pev c s) ⟨hclosed, hcell h.1 h.2⟩
    exact (settle_shut hshut
      (arriveA_agenda (fun _ => Task.calmOrReopen_of_calm) (fun _ => decide_eq_true h.2) hs)).1
  · exact settle_closed (arriveA_pev c s ▸ hclosed)
      (arriveA_agenda (fun _ => Task.noReopen_of_calm) (fun hkind => decide_eq_true fun hsel => h ⟨hkind, hsel⟩) hs)

theorem settle_work_closed {c : Instr} {s : State} (hs : s.agenda = []) (hclosed : s.pev.posture = .closed)
    (hreset : mayReset c = false) (hreopen : ∀ i, c = .reopen i → candidateWith false s = .closed)
    (hcell : ∀ x : Cell, c = .portAArrival x → x.kind = 4 → x.selector = 14 → candidateWith false s = .closed) :
    (settle (work c s)).pev.posture = .closed := by
  cases c with
  | reopen i =>
    have hrefused := congrArg State.calm (reopenRequest_refused (hreopen i rfl))
    exact settle_closed_of_keepsLatch (.of_calm (calm_takeRequest hrefused ..)) hs hclosed
  | portAArrival x => exact settle_arriveA_closed hs hclosed (hcell x rfl)
  | portBArrival x => exact settle_closed_of_pevView (noReopen_arriveB x s) hs hclosed
  | accountingPeriodExpiry => exact settle_closed_of_pevView (noReopen_periodEnds s) hs hclosed
  | staleTimerExpiry a => exact settle_closed_of_pevView (noReopen_staleEnds a s) hs hclosed
  | _ => exact settle_closed_of_keepsLatch (keepsLatch_work hreset rfl (by simp) s) hs hclosed

/-! ## The descent timer over a step (R31) -/

theorem descentSound_takeRequest {f : State → Answer × State} {s : State} (hs : DescentSound s)
    (h : DescentSound (f s).2) (n i : Nat) : DescentSound (takeRequest n i f s) := by
  unfold takeRequest
  split
  · exact hs
  · exact h

theorem descentSound_reopenRequest {s : State} (hs : DescentSound s) : DescentSound (reopenRequest s).2 := by
  unfold reopenRequest
  split
  · exact descentSound_reopen s
  · exact hs

theorem descentSound_runTask (t : Task) {s : State} (hs : DescentSound s) : DescentSound (runTask t s) := by
  by_cases h : t.noReopen = true
  · exact (keepsLatch_runTask h s).descent hs
  · obtain ⟨c, rfl, hsel⟩ : ∃ c, t = .request c ∧ c.selector = 14 := by
      cases t <;> simp_all [Task.noReopen]
    rw [runTask, takeRequestCell_reopen hsel]
    exact descentSound_takeRequest hs (descentSound_reopenRequest hs) _ _

/-- A reset leaves the timer STOPPED (R36), and leaving reset does not touch it. -/
theorem descentSound_takeReset (cause : ResetCause) (s : State) : DescentSound (takeReset cause s) := by
  simp [DescentSound, takeReset, resetTransmitters, resetPresence, resetState, Pev.atReset]

theorem leaveReset_pev (s : State) : (leaveReset s).pev = s.pev := by
  refine pev_eq_of_pevView (p := Task.calm) ?_
  simp [leaveReset, Function.comp_def, Task.calm]

theorem descentSound_resetAndLeave (cause : ResetCause) (s : State) : DescentSound (resetAndLeave cause s) :=
  descentSound_of_pev_eq (leaveReset_pev _) (descentSound_takeReset cause s)

theorem descentSound_resetAndHold (cause : ResetCause) (s : State) : DescentSound (resetAndHold cause s) :=
  descentSound_takeReset cause s

theorem descentSound_work (c : Instr) {s : State} (hs : DescentSound s) : DescentSound (work c s) := by
  cases c with
  | reopen i => exact descentSound_takeRequest hs (descentSound_reopenRequest hs) _ _
  | portAArrival x => exact descentSound_of_pev_eq (arriveA_pev x s) hs
  | portBArrival x => exact descentSound_of_pev_eq (pev_eq_of_pevView (noReopen_arriveB x s)) hs
  | accountingPeriodExpiry => exact descentSound_of_pev_eq (pev_eq_of_pevView (noReopen_periodEnds s)) hs
  | staleTimerExpiry a => exact descentSound_of_pev_eq (pev_eq_of_pevView (noReopen_staleEnds a s)) hs
  | powerUpReset b =>
    rw [work, powerUp]
    split
    · exact descentSound_resetAndLeave _ _
    · exact descentSound_resetAndHold _ _
  | supplyReset =>
    rw [work, supplyFalls]
    split
    · exact descentSound_resetAndHold _ _
    · exact hs
  | supplyReturn =>
    rw [work, supplyReturns]
    split
    · exact hs
    · exact descentSound_of_pev_eq (leaveReset_pev s) hs
  | requestedReset =>
    rw [work, requestedReset]
    split
    · exact descentSound_resetAndLeave _ _
    · exact hs
  | portATransmitComplete =>
    rw [work, portAComplete]
    split
    · exact descentSound_resetAndLeave _ _
    · exact descentSound_of_pev_eq (pev_eq_of_pevView (calm_portASent s)) hs
  | _ => exact (keepsLatch_work rfl rfl (by simp) s).descent hs

/-- A STOPPED timer counts nothing down (R28). -/
theorem descentSound_second {s : State} (hs : DescentSound s) : DescentSound (second s) := by
  unfold second
  split
  · intro hclosed
    simp only [hs hclosed, Descent.countDown]
  · exact hs

/-! ## The statement -/

/-- STATUS page 0 carries the posture and the kept candidate in its two high bytes (R195). -/
theorem statusPage0_high (s : State) : statusPage0 s / 65536 = s.pev.posture.code * 256 + s.pev.candidate.code := by
  have hposture := s.pev.posture.code_le_closed
  have hcandidate := s.pev.candidate.code_le_closed
  simp only [statusPage0, fourBytes, Posture.code] at *
  omega

/-- Settles O26: a handling without an accepted REOPEN keeps CLOSED, as its announcements do one by one; the timer by the
principle of `step_keeps`. -/
theorem closedIsLatched : Obligations.ClosedIsLatched := by
  refine ⟨fun c s t hs hclosed hexec hreset hreopen hcell => ?_, fun s hclosed hstopped => ?_, fun s t hs hstep => ?_,
    fun s hclosed => ?_⟩
  · rw [exec_eq] at hexec
    split at hexec <;> cases hexec
    · exact settle_work_closed hs hclosed hreset hreopen hcell
    · exact hclosed
  · rw [evaluate, evaluateWith_of_closed .rise hclosed, ← hstopped]
  · exact step_keeps (P := DescentSound) (fun _ _ h => h) (fun _ _ h => h) (fun t _ => descentSound_runTask t)
      (fun c _ => descentSound_work c) (fun _ => descentSound_second) hs hstep
  · rw [statusPage0_high, hclosed]
    rfl

end Sys2Proof.Machine
